-- ==== Sys2Proof/Word.lean ====
section
/-! DEFINITION. The widths of the SSPC and the vocabulary of its wire: bytes, host register numbers,
line names and events (spec 00_scope R7, R8; 20_memory R40). -/

namespace Sys2Proof

/-- `u8` of R7: an unsigned 8-bit value. -/
abbrev Byte := BitVec 8

/-- A host register number: the 5-bit address of R5 and R40. -/
abbrev RegNo := BitVec 5

/-- The three output lines of R11. -/
inductive OutLine where
  | clk
  | cmd
  | sel
  deriving DecidableEq, Repr

/-- The two input lines of R12. -/
inductive InLine where
  | dat
  | ack
  deriving DecidableEq, Repr

/-- An event of R8: `W(L,b)`, `R(L)=b` or `D(d)`. For `sel` and `ack` the bit is the logical value, for
the other lines the level. -/
inductive Event where
  | write (line : OutLine) (bit : Bool)
  | read (line : InLine) (bit : Bool)
  | delay (units : Nat)
  deriving DecidableEq, Repr

end Sys2Proof
end

