-- ==== Sys2Proof/Config.lean ====
section
/-! DEFINITION. The parameters of spec 00_scope R5, and the free values. A parameter the spec marks OPEN,
and every value the spec leaves unspecified, is an opaque constant: nothing can prove a value of it. -/

namespace Sys2Proof.Config

/-- `T_CLK`, the clock-delay, in time units (R5; conflict C3). -/
def tClk : Nat := 10

/-- `T_HALF`, the half-clock-delay, in time units (R5; conflict C3). -/
def tHalf : Nat := 5

/-- `ACK_POLL_MAX` (R5): the greatest number of samples of `ACK` in one byte exchange. -/
def ackPollMax : Nat := 50

/-- `FRAME_LEN` (R5): the number of exchanges of a transaction and of bytes of a frame. -/
abbrev frameLen : Nat := 9

/-- `TX_SEQ[k]` (R5, R65): `[0x01, 0x42, 0xFF, 0xFF, 0xFF, 0xFF, 0xFF, 0xFF, 0xFF]`. -/
def txSeq (k : Fin frameLen) : Byte :=
  if k = 0 then 0x01#8 else if k = 1 then 0x42#8 else 0xFF#8

/-- `CMD_END_LEVEL` (R5, R123): the level written to `CMD` at the end of a completed transaction. -/
def cmdEndLevel : Bool := true

/-- `DIGITAL_MODE_SENTINEL` (R5, R71): OPEN, its value is in no source (log entry 2). -/
opaque digitalModeSentinel : Byte

/-- `SEL_ACTIVE_LEVEL` (R5, R11): OPEN (log entry 2). -/
opaque selActiveLevel : Bool

/-- `ACK_ACTIVE_LEVEL` (R5, R12): OPEN (log entry 2). -/
opaque ackActiveLevel : Bool

/-- `TU_PERIOD` (R5): the real duration of one time unit, OPEN (log entry 2). No rule depends on it. -/
opaque tuPeriod : Nat

/-- `T_INTERPOLL` (R5, R192): the delay the host leaves between two transactions, OPEN and the host's. -/
opaque tInterpoll : Nat

/-- The bit a sample of an input line returns when the state lists no scripted sample: a free draw that
may depend on the whole trace so far (R6, R43; 93 U1; log entry 3). -/
opaque sample : InLine → List Event → Bool

/-- The byte an unspecified register reads as: a free draw, a fresh one for each number
(R194; 93 U2 to U6; log entry 4). -/
opaque freeByte : Nat → Byte

end Sys2Proof.Config
end

