-- ==== Sys2Proof/Syntax.lean ====
section
/-! DEFINITION. The syntax: one constructor of `Instr` per row of spec/opcode_table.json, the lines of a
host script (30_encoding R77), and the coded forms in which the rows stand (the table's formats). -/

namespace Sys2Proof

/-- What the outside does next at the host port. `wr`, `rd`, `wait` and the conditional write are the
script notation of R77 and R78; `tick` lets the sequencer take one step between two host accesses (R41);
`reset` is the reset input (R180); `wide` is an access wider than one byte, which is outside the spec (93 U9). -/
inductive HostLine where
  | wr (reg : RegNo) (value : Byte)
  | rd (reg : RegNo)
  | wait
  | wrIfOk (reg : RegNo) (value : Byte)
  | poll
  | tick
  | reset
  | wide (reg : RegNo) (bytes : Nat)
  deriving DecidableEq, Repr

/-- The number of host register CMD (R18). -/
def cmdReg : RegNo := 0x00#5

/-- The script POLL abbreviates (R78): `WR CMD, 0x06; WAIT; if ERR = 0 then WR CMD, 0x07`. -/
def pollScript : List HostLine :=
  [.wr cmdReg 0x06#8, .wait, .wrIfOk cmdReg 0x07#8]

/-- The rows of spec/opcode_table.json, one constructor each. Rows of format HCMD are the bytes a host writes
to CMD; PSEUDO is a host script; WCMD, TXSEQ, WBYTE and FRAME rows are what the sequencer sends and receives
inside an operation; FRAME.B1, B3 and B4 rows are what DECODE finds in a frame (log entry 1). -/
inductive Instr where
  -- HCMD (R62, R74)
  | setClock
  | setSelect
  | setCommand
  | readData
  | readAck
  | exchangeByte
  | runTransaction
  | decode
  | reserved (rsv : BitVec 5) (op : BitVec 3)
  -- PSEUDO (R78)
  | poll
  -- WCMD (R66)
  | wcmdStart
  | wcmdPoll
  | wcmdPad
  -- TXSEQ (R65)
  | txSeq0
  | txSeq1
  | txSeq2
  | txSeq3
  | txSeq4
  | txSeq5
  | txSeq6
  | txSeq7
  | txSeq8
  -- WBYTE (R64)
  | wbyte (out : Byte)
  -- FRAME (R67): the received byte is the operand
  | fStart (v : Byte)
  | fMode (v : Byte)
  | fCheck (v : Byte)
  | fBtnA (v : Byte)
  | fBtnB (v : Byte)
  | fRx (v : Byte)
  | fRy (v : Byte)
  | fLx (v : Byte)
  | fLy (v : Byte)
  -- FRAME.B1 (R71)
  | modeDigital
  | modeAnalog (v : Byte)
  -- FRAME.B3 (R68)
  | ctlSelect
  | ctlLeftStick
  | ctlRightStick
  | ctlStart
  | ctlUp
  | ctlRight
  | ctlDown
  | ctlLeft
  -- FRAME.B4 (R69)
  | ctlL2
  | ctlR2
  | ctlL1
  | ctlR1
  | ctlTriangle
  | ctlCircle
  | ctlCross
  | ctlSquare
  deriving DecidableEq, Repr

/-- A coded form together with the place it stands at, since one byte means different rows at different
places (R60): the byte written to CMD, a host script, an outgoing byte, the byte of exchange `k`, the eight
bit cells of a byte exchange in the order they occur, a received byte, the mode byte, and a button byte of
the frame looked at for one of its bits. -/
inductive Code where
  | hcmd (v : Byte)
  | script (lines : List HostLine)
  | wcmd (v : Byte)
  | txSeq (k : Fin Config.frameLen) (v : Byte)
  | wbyte (cells : List Bool)
  | frame (k : Fin Config.frameLen) (v : Byte)
  | mode (v : Byte)
  | button (byte : Fin Config.frameLen) (bit : Fin 8) (v : Byte)
  deriving DecidableEq, Repr

/-- The formats of the opcode table (R60). -/
inductive Format where
  | hcmd
  | pseudo
  | wcmd
  | txSeq
  | wbyte
  | frame
  | frameB1
  | frameB3
  | frameB4
  deriving DecidableEq, Repr

end Sys2Proof
end

