-- ==== Sys2Proof/WellFormed.lean ====
section
/-! DEFINITION. The two checks on an instruction's fields that its row asks for: a reserved command word has
a nonzero `rsv` (R74), and the mode byte of MODE_ANALOG is not the digital-mode sentinel (R71). -/

namespace Sys2Proof

/-- An instruction whose fields are those its opcode-table row allows. -/
def Instr.wellFormed : Instr → Bool
  | .reserved rsv _ => rsv != 0#5
  | .modeAnalog v => v != Config.digitalModeSentinel
  | _ => true

end Sys2Proof
end

