-- ==== Sys2Proof/Decode.lean ====
section
/-! DEFINITION. The decoder, total on every coded form and on any bytes, rejecting by name; then the encoder,
written from the same tables (30_encoding R61 to R71). -/

namespace Sys2Proof

/-- Why a coded form is no row of the opcode table. `noByte`: nothing to decode; `notAScript`: a host script
other than POLL's; `notAWireCommand`: an outgoing byte R66 gives no role; `notTheSequenceByte`: a byte that
exchange `k` does not send (R65); `notEightCells`: a byte exchange has eight bit cells (R64); `released`: the
looked-at bit is 1, so the control is not pressed (R73); `notAButtonByte`: only frame bytes 3 and 4 hold buttons. -/
inductive DecodeReject where
  | noByte
  | notAScript
  | notAWireCommand (v : Byte)
  | notTheSequenceByte (k : Fin Config.frameLen) (v : Byte)
  | notEightCells (n : Nat)
  | released (byte : Fin Config.frameLen) (bit : Fin 8)
  | notAButtonByte (byte : Fin Config.frameLen)
  deriving DecidableEq, Repr

/-- HCMD (R61, R62, R74): `op` is bits 2:0, `rsv` is bits 7:3; total, every byte is a command or reserved. -/
def decodeHcmd (v : Byte) : Instr :=
  let rsv := v.extractLsb' 3 5
  let op := v.extractLsb' 0 3
  if rsv ≠ 0#5 then .reserved rsv op
  else if op = 0#3 then .setClock
  else if op = 1#3 then .setSelect
  else if op = 2#3 then .setCommand
  else if op = 3#3 then .readData
  else if op = 4#3 then .readAck
  else if op = 5#3 then .exchangeByte
  else if op = 6#3 then .runTransaction
  else .decode

/-- Any bytes as a sequence of command words: the first one's instruction, and the bytes after it. -/
def decodeBytes : List Byte → Except DecodeReject (Instr × List Byte)
  | [] => .error .noByte
  | v :: rest => .ok (decodeHcmd v, rest)

/-- WCMD (R66): the three outgoing bytes that have a role. -/
def decodeWcmd (v : Byte) : Except DecodeReject Instr :=
  if v = 0x01#8 then .ok .wcmdStart
  else if v = 0x42#8 then .ok .wcmdPoll
  else if v = 0xFF#8 then .ok .wcmdPad
  else .error (.notAWireCommand v)

/-- The row of the byte sent in exchange `k` (R65). -/
def txSeqRow (k : Fin Config.frameLen) : Instr :=
  match k with
  | 0 => .txSeq0
  | 1 => .txSeq1
  | 2 => .txSeq2
  | 3 => .txSeq3
  | 4 => .txSeq4
  | 5 => .txSeq5
  | 6 => .txSeq6
  | 7 => .txSeq7
  | 8 => .txSeq8

/-- The row of the byte received in exchange `k` (R67). -/
def frameRow (k : Fin Config.frameLen) (v : Byte) : Instr :=
  match k with
  | 0 => .fStart v
  | 1 => .fMode v
  | 2 => .fCheck v
  | 3 => .fBtnA v
  | 4 => .fBtnB v
  | 5 => .fRx v
  | 6 => .fRy v
  | 7 => .fLx v
  | 8 => .fLy v

/-- FRAME.B3 (R68): the control at each bit of frame byte 3. -/
def buttonARow (bit : Fin 8) : Instr :=
  match bit with
  | 0 => .ctlSelect
  | 1 => .ctlLeftStick
  | 2 => .ctlRightStick
  | 3 => .ctlStart
  | 4 => .ctlUp
  | 5 => .ctlRight
  | 6 => .ctlDown
  | 7 => .ctlLeft

/-- FRAME.B4 (R69): the control at each bit of frame byte 4. -/
def buttonBRow (bit : Fin 8) : Instr :=
  match bit with
  | 0 => .ctlL2
  | 1 => .ctlR2
  | 2 => .ctlL1
  | 3 => .ctlR1
  | 4 => .ctlTriangle
  | 5 => .ctlCircle
  | 6 => .ctlCross
  | 7 => .ctlSquare

/-- The byte whose bit `i` is the `i`-th of eight bits (R72): `sum over i of s_i * 2^i`. -/
def byteOfBits (s0 s1 s2 s3 s4 s5 s6 s7 : Bool) : Byte :=
  BitVec.ofNat 8 (s0.toNat + 2 * s1.toNat + 4 * s2.toNat + 8 * s3.toNat + 16 * s4.toNat + 32 * s5.toNat
    + 64 * s6.toNat + 128 * s7.toNat)

/-- The bits of a byte in wire order, bit 0 first (R44, R64). -/
def wireBits (v : Byte) : List Bool :=
  [v.getLsbD 0, v.getLsbD 1, v.getLsbD 2, v.getLsbD 3, v.getLsbD 4, v.getLsbD 5, v.getLsbD 6, v.getLsbD 7]

/-- WBYTE (R64): eight bit cells, cell `i` carrying `out[i]` on `CMD`. -/
def decodeCells : List Bool → Except DecodeReject Instr
  | [s0, s1, s2, s3, s4, s5, s6, s7] => .ok (.wbyte (byteOfBits s0 s1 s2 s3 s4 s5 s6 s7))
  | cells => .error (.notEightCells cells.length)

/-- FRAME.B3 and FRAME.B4 (R68, R69): the row matches when its bit is 0, active-low (R73). -/
def decodeButton (byte : Fin Config.frameLen) (bit : Fin 8) (v : Byte) : Except DecodeReject Instr :=
  if byte = 3 then (if v.getLsbD bit then .error (.released byte bit) else .ok (buttonARow bit))
  else if byte = 4 then (if v.getLsbD bit then .error (.released byte bit) else .ok (buttonBRow bit))
  else .error (.notAButtonByte byte)

/-- The row a coded form stands for. -/
def decode : Code → Except DecodeReject Instr
  | .hcmd v => .ok (decodeHcmd v)
  | .script lines => if lines = pollScript then .ok .poll else .error .notAScript
  | .wcmd v => decodeWcmd v
  | .txSeq k v => if v = Config.txSeq k then .ok (txSeqRow k) else .error (.notTheSequenceByte k v)
  | .wbyte cells => decodeCells cells
  | .frame k v => .ok (frameRow k v)
  | .mode v => .ok (if v = Config.digitalModeSentinel then .modeDigital else .modeAnalog v)
  | .button byte bit v => decodeButton byte bit v

/-- The bytes of a table word of `nbits` bits, bits 7:0 first. -/
def tableBytes (nbits w : Nat) : List Byte :=
  (List.range ((nbits + 7) / 8)).map fun j => BitVec.ofNat 8 (w / 2 ^ (8 * j))

/-- The host's question about one table word. A word with no place is read as the bytes written to CMD: the other
formats reuse the same byte values at other places (log entry 1). -/
def decodeTableWord (nbits w : Nat) : Option Instr :=
  match decodeBytes (tableBytes nbits w) with
  | .ok (i, _) => some i
  | .error _ => none

/-- HCMD word of an operation code with `rsv` = 0 (R61, R62). -/
def hcmdWord (rsv : BitVec 5) (op : BitVec 3) : Byte :=
  rsv ++ op

/-- A button byte in which only the control at `bit` is pressed (R68, R69, R73: the other bits are free, written as 1). -/
def pressedAlone (bit : Fin 8) : Byte :=
  ~~~(1#8 <<< bit.val)

/-- The coded form of an instruction. -/
def encode : Instr → Code
  | .setClock => .hcmd (hcmdWord 0#5 0#3)
  | .setSelect => .hcmd (hcmdWord 0#5 1#3)
  | .setCommand => .hcmd (hcmdWord 0#5 2#3)
  | .readData => .hcmd (hcmdWord 0#5 3#3)
  | .readAck => .hcmd (hcmdWord 0#5 4#3)
  | .exchangeByte => .hcmd (hcmdWord 0#5 5#3)
  | .runTransaction => .hcmd (hcmdWord 0#5 6#3)
  | .decode => .hcmd (hcmdWord 0#5 7#3)
  | .reserved rsv op => .hcmd (hcmdWord rsv op)
  | .poll => .script pollScript
  | .wcmdStart => .wcmd 0x01#8
  | .wcmdPoll => .wcmd 0x42#8
  | .wcmdPad => .wcmd 0xFF#8
  | .txSeq0 => .txSeq 0 0x01#8
  | .txSeq1 => .txSeq 1 0x42#8
  | .txSeq2 => .txSeq 2 0xFF#8
  | .txSeq3 => .txSeq 3 0xFF#8
  | .txSeq4 => .txSeq 4 0xFF#8
  | .txSeq5 => .txSeq 5 0xFF#8
  | .txSeq6 => .txSeq 6 0xFF#8
  | .txSeq7 => .txSeq 7 0xFF#8
  | .txSeq8 => .txSeq 8 0xFF#8
  | .wbyte out => .wbyte (wireBits out)
  | .fStart v => .frame 0 v
  | .fMode v => .frame 1 v
  | .fCheck v => .frame 2 v
  | .fBtnA v => .frame 3 v
  | .fBtnB v => .frame 4 v
  | .fRx v => .frame 5 v
  | .fRy v => .frame 6 v
  | .fLx v => .frame 7 v
  | .fLy v => .frame 8 v
  | .modeDigital => .mode Config.digitalModeSentinel
  | .modeAnalog v => .mode v
  | .ctlSelect => .button 3 0 (pressedAlone 0)
  | .ctlLeftStick => .button 3 1 (pressedAlone 1)
  | .ctlRightStick => .button 3 2 (pressedAlone 2)
  | .ctlStart => .button 3 3 (pressedAlone 3)
  | .ctlUp => .button 3 4 (pressedAlone 4)
  | .ctlRight => .button 3 5 (pressedAlone 5)
  | .ctlDown => .button 3 6 (pressedAlone 6)
  | .ctlLeft => .button 3 7 (pressedAlone 7)
  | .ctlL2 => .button 4 0 (pressedAlone 0)
  | .ctlR2 => .button 4 1 (pressedAlone 1)
  | .ctlL1 => .button 4 2 (pressedAlone 2)
  | .ctlR1 => .button 4 3 (pressedAlone 3)
  | .ctlTriangle => .button 4 4 (pressedAlone 4)
  | .ctlCircle => .button 4 5 (pressedAlone 5)
  | .ctlCross => .button 4 6 (pressedAlone 6)
  | .ctlSquare => .button 4 7 (pressedAlone 7)

/-- The format at whose place a coded form stands (R60). -/
def codeFormat : Code → Format
  | .hcmd _ => .hcmd
  | .script _ => .pseudo
  | .wcmd _ => .wcmd
  | .txSeq _ _ => .txSeq
  | .wbyte _ => .wbyte
  | .frame _ _ => .frame
  | .mode _ => .frameB1
  | .button byte _ _ => if byte = 3 then .frameB3 else .frameB4

end Sys2Proof
end

