-- ==== Sys2Proof/Machine/State.lean ====
section
/-! DEFINITION. The state of the SSPC (10_state R10 to R17, R23 to R26), the model's own fields for the outside
world, the faults and refusals of a step, and the reset state (R31). -/

namespace Sys2Proof.Machine

/-- `op_run` (R15): which multi-step operation is running. -/
inductive OpRun where
  | none
  | xchg
  | txn
  deriving DecidableEq, Repr

/-- `ph` (R15): the control points of the sequencer. -/
inductive Phase where
  | idle
  | tCmdIdle
  | tClkIdle
  | tSelOn
  | tSetup
  | xLoad
  | bPre
  | bCmd
  | bClkLo
  | bLow
  | bSample
  | bClkHi
  | aPoll
  | aWait
  | xOk
  | xFail
  | tCmdEnd
  | tSelOff
  deriving DecidableEq, Repr

/-- The four axis bytes of a ControllerState (R141). -/
structure Axes where
  leftX : Byte
  leftY : Byte
  rightX : Byte
  rightY : Byte
  deriving DecidableEq, Repr

/-- ControllerState (R141): sixteen flags, 1 = pressed; `axes` is absent exactly when `analog` = 0. -/
structure ControllerState where
  up : Bool
  left : Bool
  down : Bool
  right : Bool
  start : Bool
  select : Bool
  leftStickPressed : Bool
  rightStickPressed : Bool
  triangle : Bool
  square : Bool
  cross : Bool
  circle : Bool
  l1 : Bool
  l2 : Bool
  r1 : Bool
  r2 : Bool
  analog : Bool
  axes : Option Axes
  deriving DecidableEq, Repr

/-- Why the machine stops with a fault. `xOkWithoutOperation`: raised by the sequencer at control point X_OK when
`op_run` = NONE, a position R126 gives no step (R15 excludes it; no run from reset and no step from a state that
meets `Machine.Inv` reaches it): safe. -/
inductive Fault where
  | xOkWithoutOperation
  deriving DecidableEq, Repr

/-- Why a step has no meaning. `notModelled`: an instruction with no meaning yet (no arm of exec says so): safe.
`wideHostAccess`: raised by a host access wider than one byte, which 93 U9 puts outside the spec: safe.
`undecodable`: raised when a coded form at the place the machine fetches from is no row; the codes the machine
fetches always are rows, so no step raises it: safe. -/
inductive Refusal where
  | notModelled (mnemonic : String)
  | wideHostAccess
  | undecodable (why : DecodeReject)
  deriving DecidableEq, Repr

/-- The state: R10's tuple, then the model's own fields (log entries 3 to 6). -/
structure State where
  /-- Output latch of the clock line, a level (R11). -/
  clk : Bool
  /-- Output latch of the command line, a level (R11). -/
  cmd : Bool
  /-- Output latch of the select line, logical: `true` is active (R11). -/
  sel : Bool
  /-- `ARG` (R13, R19). -/
  arg : Byte
  /-- `RESULT` (R13, R21). -/
  result : Byte
  /-- `FRAME[0..8]` (R13, R22). -/
  frame : Vector Byte Config.frameLen
  /-- `frame_valid` (R14). -/
  frameValid : Bool
  /-- `txb`, the byte being sent (R13). -/
  txb : Byte
  /-- `rxb`, the byte being received (R13). -/
  rxb : Byte
  /-- `op_run` (R15). -/
  opRun : OpRun
  /-- `ph` (R15). -/
  ph : Phase
  /-- `k`, the index of the exchange, 0..8 (R15). -/
  k : Fin Config.frameLen
  /-- `i`, the index of the bit, 0..7 (R15). -/
  i : Fin 8
  /-- `n`, the samples of `ACK` taken in this exchange, 0..50 (R15). -/
  n : Nat
  /-- `BUSY` (R17). -/
  busy : Bool
  /-- `DONE` (R17). -/
  done : Bool
  /-- `ERR` (R17). -/
  err : Bool
  /-- `REFUSED` (R17). -/
  refused : Bool
  /-- `ERR_INDEX` (R17). -/
  errIndex : BitVec 4
  /-- `BTN_A` (R23). -/
  btnA : Byte
  /-- `BTN_B` (R24). -/
  btnB : Byte
  /-- `LX` (R25). -/
  lx : Byte
  /-- `LY` (R25). -/
  ly : Byte
  /-- `RX` (R25). -/
  rx : Byte
  /-- `RY` (R25). -/
  ry : Byte
  /-- `ANALOG` (R26). -/
  analog : Bool
  /-- `STATE_VALID` (R26). -/
  stateValid : Bool
  /-- Model's own: `RESULT` holds a value the spec gives (R21); when not, a read of it is free. -/
  resultKnown : Bool
  /-- Model's own: what the outside does next at the host port, first line first. -/
  script : List HostLine
  /-- Model's own: the levels the next samples of `DAT` return; when empty, a sample is a free draw. -/
  datIn : List Bool
  /-- Model's own: the logical values the next samples of `ACK` return; when empty, a sample is a free draw. -/
  ackIn : List Bool
  /-- Model's own: the trace (R8), newest event first. -/
  trace : List Event
  /-- Model's own: the byte the host's last read returned. -/
  rdData : Byte
  /-- Model's own: how many free bytes have been drawn. -/
  freeCtr : Nat
  deriving DecidableEq, Repr

/-- The state right after reset (R31, R180). Registers R31 leaves unspecified hold 0x00 (DESIGN CHOICE, log entry 5);
no host read returns that value, since the valid bits are 0. -/
def State.reset : State where
  clk := true
  cmd := true
  sel := false
  arg := 0x00#8
  result := 0x00#8
  frame := Vector.replicate Config.frameLen 0x00#8
  frameValid := false
  txb := 0x00#8
  rxb := 0x00#8
  opRun := .none
  ph := .idle
  k := 0
  i := 0
  n := 0
  busy := false
  done := false
  err := false
  refused := false
  errIndex := 0#4
  btnA := 0x00#8
  btnB := 0x00#8
  lx := 0x00#8
  ly := 0x00#8
  rx := 0x00#8
  ry := 0x00#8
  analog := false
  stateValid := false
  resultKnown := false
  script := []
  datIn := []
  ackIn := []
  trace := []
  rdData := 0x00#8
  freeCtr := 0

end Sys2Proof.Machine
end

