-- ==== Sys2Proof/Machine/Operands.lean ====
section
/-! DEFINITION. The operand forms: `ARG` as a bit and as a byte (30_encoding R63), one bit of a byte read and written
(R108), the bytes of the frame, and the values the spec leaves unspecified (10_state R14; 93 U2 to U6). -/

namespace Sys2Proof.Machine

/-- `v[i]`. -/
def bitOf (v : Byte) (i : Fin 8) : Bool :=
  v.getLsbD i

/-- `v` with `v[i] <- b`. -/
def setBit (v : Byte) (i : Fin 8) (b : Bool) : Byte :=
  if b then v ||| (1#8 <<< i.val) else v &&& ~~~(1#8 <<< i.val)

/-- `zext_8` of one bit (R7). -/
def zextBit (b : Bool) : Byte :=
  (BitVec.ofBool b).setWidth 8

/-- `ARG[0]`, the operand of SET_CLOCK, SET_SELECT and SET_COMMAND (R63); `ARG[7:1]` is ignored. -/
def argBit (s : State) : Bool :=
  bitOf s.arg 0

/-- `ARG[7:0]`, the operand of EXCHANGE_BYTE (R63). -/
def argByte (s : State) : Byte :=
  s.arg

/-- `FRAME[0..8]` has values the spec gives: `frame_valid` = 1 (R14), and no operation is running (R54). -/
def frameReadable (s : State) : Bool :=
  s.frameValid && !s.busy

/-- `FRAME[0..8]` as something that reads it sees it: the stored bytes, or nine free bytes (R14; log entry 4). -/
def frameView (s : State) : Vector Byte Config.frameLen :=
  if frameReadable s then s.frame else Vector.ofFn fun k => Config.freeByte (s.freeCtr + k.val)

/-- The free bytes `frameView` used are used up. -/
def afterFrameView (s : State) : State :=
  if frameReadable s then s else { s with freeCtr := s.freeCtr + Config.frameLen }

/-- `FRAME[k] <- v`. -/
def storeFrame (k : Fin Config.frameLen) (v : Byte) (s : State) : State :=
  { s with frame := s.frame.set k v }

end Sys2Proof.Machine
end

