-- ==== Sys2Proof/Machine/Flags.lean ====
section
/-! DEFINITION. Flag computations: the STATUS and SFLAGS bytes (10_state R20, R26), the acceptance and refusal of a
command (R17; 60_exceptions R161), and the decode of a frame (43_state_decoder R141 to R148). -/

namespace Sys2Proof.Machine

/-- STATUS (R20): `ERR_INDEX` in bits 7:4, then `REFUSED`, `ERR`, `DONE`, `BUSY`. -/
def statusByte (s : State) : Byte :=
  s.errIndex ++ BitVec.ofBool s.refused ++ BitVec.ofBool s.err ++ BitVec.ofBool s.done ++ BitVec.ofBool s.busy

/-- SFLAGS (R26): `ANALOG` in bit 1, `STATE_VALID` in bit 0, bits 7:2 read as 0. -/
def sflagsByte (s : State) : Byte :=
  0#6 ++ BitVec.ofBool s.analog ++ BitVec.ofBool s.stateValid

/-- Acceptance of a command (R17): `REFUSED <- 0; DONE <- 0; ERR <- 0; ERR_INDEX <- 0`. -/
def accept (s : State) : State :=
  { s with refused := false, done := false, err := false, errIndex := 0#4 }

/-- `refuse` (R8, R161): `REFUSED <- 1`, nothing else changes. -/
def refuse (s : State) : State :=
  { s with refused := true }

/-- The mode (R145): 0 exactly when frame byte 1 equals the digital-mode sentinel. -/
def frameAnalog (f : Vector Byte Config.frameLen) : Bool :=
  f.get 1 != Config.digitalModeSentinel

/-- The axis bytes, copied verbatim (R70, R144). -/
def frameAxes (f : Vector Byte Config.frameLen) : Axes :=
  { leftX := f.get 7, leftY := f.get 8, rightX := f.get 5, rightY := f.get 6 }

/-- A flag is the complement of its frame bit (R73). -/
def pressed (v : Byte) (bit : Fin 8) : Bool :=
  !(bitOf v bit)

/-- `decode` (R141 to R146): bytes 0 and 2 are not read. -/
def decodeFrame (f : Vector Byte Config.frameLen) : ControllerState :=
  { select := pressed (f.get 3) 0
    leftStickPressed := pressed (f.get 3) 1
    rightStickPressed := pressed (f.get 3) 2
    start := pressed (f.get 3) 3
    up := pressed (f.get 3) 4
    right := pressed (f.get 3) 5
    down := pressed (f.get 3) 6
    left := pressed (f.get 3) 7
    l2 := pressed (f.get 4) 0
    r2 := pressed (f.get 4) 1
    l1 := pressed (f.get 4) 2
    r1 := pressed (f.get 4) 3
    triangle := pressed (f.get 4) 4
    circle := pressed (f.get 4) 5
    cross := pressed (f.get 4) 6
    square := pressed (f.get 4) 7
    analog := frameAnalog f
    axes := if frameAnalog f then some (frameAxes f) else none }

/-- The eight flags of frame byte 3 at their bits of BTN_A (R23). -/
def packA (c : ControllerState) : Byte :=
  byteOfBits c.select c.leftStickPressed c.rightStickPressed c.start c.up c.right c.down c.left

/-- The eight flags of frame byte 4 at their bits of BTN_B (R24). -/
def packB (c : ControllerState) : Byte :=
  byteOfBits c.l2 c.r2 c.l1 c.r1 c.triangle c.circle c.cross c.square

end Sys2Proof.Machine
end

