-- ==== Sys2Proof/Machine/Ops.lean ====
section
/-! DEFINITION. The named operations every meaning is written over: the wire (20_memory R42, R43), the delay
(40 R96), the end of an operation (00_scope R8), the one error of the SSPC (60_exceptions R160 to R166), the host
registers (20_memory R41), reset (70 R180, R181), and the elapsed time of a trace (70 R196). -/

namespace Sys2Proof.Machine

/-- The latch of an output line (R11). -/
def latchOf (l : OutLine) (s : State) : Bool :=
  match l with
  | .clk => s.clk
  | .cmd => s.cmd
  | .sel => s.sel

/-- The level on the pin of an output line (R11): for `SEL`, `SEL_ACTIVE_LEVEL` when active and its complement otherwise. -/
def pinLevel (l : OutLine) (s : State) : Bool :=
  match l with
  | .clk => latchOf .clk s
  | .cmd => latchOf .cmd s
  | .sel => if latchOf .sel s then Config.selActiveLevel else !Config.selActiveLevel

/-- The level on an input pin when a sample of the line returned `b` (R12): for `ACK`, `ACK_ACTIVE_LEVEL` when active. -/
def inputLevel (l : InLine) (b : Bool) : Bool :=
  match l with
  | .dat => b
  | .ack => if b then Config.ackActiveLevel else !Config.ackActiveLevel

/-- The event a step emits (R8). -/
def emit (e : Event) (s : State) : State :=
  { s with trace := e :: s.trace }

/-- `LineWrite(L, b)` (R42): the latch follows at once; the write is an event also where the latch already holds `b`. -/
def lineWrite (l : OutLine) (b : Bool) (s : State) : State :=
  match l with
  | .clk => emit (.write .clk b) { s with clk := b }
  | .cmd => emit (.write .cmd b) { s with cmd := b }
  | .sel => emit (.write .sel b) { s with sel := b }

/-- The bit a sample of `DAT` returns now (R12, R43; log entry 3). -/
def datNow (s : State) : Bool :=
  match s.datIn with
  | b :: _ => b
  | [] => Config.sample .dat s.trace

/-- The bit a sample of `ACK` returns now, `true` = active (R12, R43; log entry 3). -/
def ackNow (s : State) : Bool :=
  match s.ackIn with
  | b :: _ => b
  | [] => Config.sample .ack s.trace

/-- `LineRead(DAT)` (R43) has been performed: its event is in the trace, the sample is used up. -/
def readDat (s : State) : State :=
  emit (.read .dat (datNow s)) { s with datIn := s.datIn.tail }

/-- `LineRead(ACK)` (R43) has been performed. -/
def readAck (s : State) : State :=
  emit (.read .ack (ackNow s)) { s with ackIn := s.ackIn.tail }

/-- `Delay(d)` (R96): outputs hold, nothing is sampled. -/
def delay (d : Nat) (s : State) : State :=
  emit (.delay d) s

/-- The elapsed time of a trace in time units (R96, R196): only delays take time. -/
def elapsed : List Event → Nat
  | [] => 0
  | .delay d :: es => d + elapsed es
  | .write _ _ :: es => elapsed es
  | .read _ _ :: es => elapsed es

/-- `DONE <- 1`, the end of a one-step operation (R17, R62). -/
def finish (s : State) : State :=
  { s with done := true }

/-- `complete` (R8): `BUSY <- 0`, `DONE <- 1`, `ph <- IDLE`, `op_run <- NONE`. -/
def complete (s : State) : State :=
  { s with busy := false, done := true, ph := .idle, opRun := .none }

/-- `RESULT <- v` (R21): it holds a value the spec gives from here on. -/
def setResult (v : Byte) (s : State) : State :=
  { s with result := v, resultKnown := true }

/-- `raise AckTimeout(k)` (R165): `ERR <- 1`; `ERR_INDEX <- k` in a transaction, 0 otherwise (R162); `complete`. The
lines, `RESULT`, `ARG` and the STATE registers are left as they are; after a stand-alone exchange the value of `RESULT`
is unspecified (R21; log entry 7). The way back is the acceptance of the next command, `accept` (R166). -/
def raiseAckTimeout (s : State) : State :=
  complete { s with
    err := true
    errIndex := if s.opRun = .txn then BitVec.ofNat 4 s.k.val else 0#4
    resultKnown := if s.opRun = .xchg then false else s.resultKnown }

/-- The value the spec gives host register `a`, and none where it leaves the register unspecified (R18 to R27, R54). -/
def regValue (a : RegNo) (s : State) : Option Byte :=
  if a = 0x00#5 then some 0x00#8
  else if a = 0x01#5 then some s.arg
  else if a = 0x02#5 then some (statusByte s)
  else if a = 0x03#5 then (if s.resultKnown && !s.busy then some s.result else none)
  else if h : 0x04 ≤ a.toNat ∧ a.toNat ≤ 0x0C then
    (if frameReadable s then some (s.frame.get ⟨a.toNat - 4, by simp only [Config.frameLen]; omega⟩) else none)
  else if a = 0x0D#5 then (if s.stateValid then some s.btnA else none)
  else if a = 0x0E#5 then (if s.stateValid then some s.btnB else none)
  else if a = 0x0F#5 then (if s.analog then some s.lx else none)
  else if a = 0x10#5 then (if s.analog then some s.ly else none)
  else if a = 0x11#5 then (if s.analog then some s.rx else none)
  else if a = 0x12#5 then (if s.analog then some s.ry else none)
  else if a = 0x13#5 then some (sflagsByte s)
  else none

/-- `MemRead(a, 1)` (R41, R194): the host gets the register's value, or a free byte; no SSPC state changes. -/
def hostRead (a : RegNo) (s : State) : State :=
  match regValue a s with
  | some v => { s with rdData := v }
  | none => { s with rdData := Config.freeByte s.freeCtr, freeCtr := s.freeCtr + 1 }

/-- `MemWrite(a, 1, v)` for a register other than CMD (R41, R27): ARG is set, every other write is ignored. -/
def writeReg (a : RegNo) (v : Byte) (s : State) : State :=
  if a = 0x01#5 then { s with arg := v } else s

/-- The reset input (R180, R181), at any time: every piece of SSPC state takes its value of R31; the outside world's
own fields go on. -/
def applyReset (s : State) : State :=
  { State.reset with
    script := s.script
    datIn := s.datIn
    ackIn := s.ackIn
    trace := s.trace
    rdData := s.rdData
    freeCtr := s.freeCtr }

end Sys2Proof.Machine
end

