-- ==== Sys2Proof/Machine/LineOps.lean ====
section
/-! DEFINITION. The Bit Clock Driver's five one-step operations (40_bit_clock_driver R90 to R95), the reserved command
words (30_encoding R74) and the host script POLL (R78). -/

namespace Sys2Proof.Machine

/-- The acceptance test of a command word with `rsv` = 0 other than DECODE (R61): refused when `BUSY` = 1, otherwise
the state its acceptance leads to. -/
def hostCommand (s accepted : State) : Host.Outcome State Fault Refusal :=
  .next (if s.busy then refuse s else accepted)

/-- SET_CLOCK (R91). -/
def execSetClock (s : State) : Host.Outcome State Fault Refusal :=
  hostCommand s (finish (lineWrite .clk (argBit s) (accept s)))

/-- SET_SELECT (R92). -/
def execSetSelect (s : State) : Host.Outcome State Fault Refusal :=
  hostCommand s (finish (lineWrite .sel (argBit s) (accept s)))

/-- SET_COMMAND (R93). -/
def execSetCommand (s : State) : Host.Outcome State Fault Refusal :=
  hostCommand s (finish (lineWrite .cmd (argBit s) (accept s)))

/-- READ_DATA (R94): `RESULT` is the zero-extended level of `DAT` now. -/
def execReadData (s : State) : Host.Outcome State Fault Refusal :=
  hostCommand s (finish (setResult (zextBit (datNow s)) (readDat (accept s))))

/-- READ_ACK (R95): `RESULT` is the zero-extended logical value of `ACK` now, 1 = active. -/
def execReadAck (s : State) : Host.Outcome State Fault Refusal :=
  hostCommand s (finish (setResult (zextBit (ackNow s)) (readAck (accept s))))

/-- A command word with `rsv` ≠ 0 (R61, R74): refused, in every state. -/
def execReserved (_rsv : BitVec 5) (_op : BitVec 3) (s : State) : Host.Outcome State Fault Refusal :=
  .next (refuse s)

/-- POLL (R78): the host's next lines are those the pseudo-operation stands for. -/
def execPoll (s : State) : Host.Outcome State Fault Refusal :=
  .next { s with script := pollScript ++ s.script }

end Sys2Proof.Machine
end

