-- ==== Sys2Proof/Machine/Exchange.lean ====
section
/-! DEFINITION. The Byte Exchange (41_byte_exchange R100 to R106): EXCHANGE_BYTE, which starts the sequencer, and the
procedure `exchange_byte` in whole (rows WBYTE and WCMD), which the sequencer runs step by step. -/

namespace Sys2Proof.Machine

/-- EXCHANGE_BYTE (R100): `BUSY <- 1`, `op_run <- XCHG`, `txb <- ARG`, `ph <- X_LOAD`; the sequencer then runs it. -/
def execExchangeByte (s : State) : Host.Outcome State Fault Refusal :=
  hostCommand s { accept s with busy := true, opRun := .xchg, txb := argByte s, ph := .xLoad }

/-- `rxb[i] <- LineRead(DAT)` (R102 step 4). -/
def sampleBit (s : State) : State :=
  { readDat s with rxb := setBit s.rxb s.i (datNow s) }

/-- `a <- LineRead(ACK); n <- n + 1` (R101). -/
def pollAck (s : State) : State :=
  { readAck s with n := s.n + 1 }

/-- Bit cell `i` of `txb` (R102): its six events in order. -/
def bitCell (s : State) (i : Fin 8) : State :=
  let low := lineWrite .clk false (lineWrite .cmd (bitOf s.txb i) (delay Config.tClk { s with i := i }))
  lineWrite .clk true (sampleBit (delay Config.tClk low))

/-- What precedes the cells of one exchange: the byte to send, `i <- 0`, `n <- 0` (R126, X_LOAD). -/
def loadByte (out : Byte) (s : State) : State :=
  { s with txb := out, i := 0, n := 0 }

/-- The eight bit cells (R101), least-significant bit first. -/
def byteCells (s : State) : State :=
  (List.finRange 8).foldl bitCell s

/-- The acknowledgement wait with `polls` samples left (R103), and whether a sample read inactive. -/
def ackWait : Nat → State → State × Bool
  | 0, s => (s, false)
  | polls + 1, s => if ackNow s then ackWait polls (delay Config.tHalf (pollAck s)) else (pollAck s, true)

/-- The outcome of an acknowledgement wait as the control point it leads to: `Ok` is X_OK, `Err(AckTimeout)` is X_FAIL. -/
def settleExchange (r : State × Bool) : State :=
  { r.1 with ph := if r.2 then .xOk else .xFail }

/-- `exchange_byte(out)` in whole (R101): the cells, then the wait of at most `ACK_POLL_MAX` samples. -/
def exchangeByte (out : Byte) (s : State) : State :=
  settleExchange (ackWait Config.ackPollMax (byteCells (loadByte out s)))

/-- The bit cells of one outgoing byte in whole, up to the acknowledgement window (R64, R66). -/
def sendByte (out : Byte) (s : State) : State :=
  { byteCells (loadByte out s) with ph := .aPoll }

/-- WBYTE (R64, R101): one byte exchange on the wire. -/
def execWbyte (out : Byte) (s : State) : Host.Outcome State Fault Refusal :=
  .next (exchangeByte out s)

/-- START (R66): the start byte goes out on `CMD`, bit 0 first. -/
def execWcmdStart (s : State) : Host.Outcome State Fault Refusal :=
  .next (sendByte 0x01#8 s)

/-- POLL_CMD (R66): the poll-command byte goes out on `CMD`, bit 0 first. -/
def execWcmdPoll (s : State) : Host.Outcome State Fault Refusal :=
  .next (sendByte 0x42#8 s)

/-- PAD (R66): the placeholder byte goes out on `CMD`, bit 0 first. -/
def execWcmdPad (s : State) : Host.Outcome State Fault Refusal :=
  .next (sendByte 0xFF#8 s)

end Sys2Proof.Machine
end

