-- ==== Sys2Proof/Machine/Transaction.lean ====
section
/-! DEFINITION. The Frame Transaction (42_frame_transaction R120 to R127): RUN_TRANSACTION, which starts the sequencer; the
nine bytes it sends (rows TXSEQ), loaded at control point X_LOAD; the nine it receives (rows FRAME), stored at X_OK; and
the transaction in whole, which the sequencer runs step by step. -/

namespace Sys2Proof.Machine

/-- RUN_TRANSACTION (R120): `BUSY <- 1`, `op_run <- TXN`, `frame_valid <- 0`, `ph <- T_CMD_IDLE`; the sequencer then runs it. -/
def execRunTransaction (s : State) : Host.Outcome State Fault Refusal :=
  hostCommand s { accept s with busy := true, opRun := .txn, frameValid := false, ph := .tCmdIdle }

/-- Control point X_LOAD for the byte `out` (R126): the exchange is set up, and the first bit cell is next. -/
def loadExchange (out : Byte) (s : State) : State :=
  { loadByte out s with ph := .bPre }

/-- Control point X_OK of exchange `k` of a transaction (R126): `FRAME[k] <- v`, then the next exchange, or the epilogue after
the ninth. -/
def storeReceived (k : Fin Config.frameLen) (v : Byte) (s : State) : State :=
  if h : k.val + 1 < Config.frameLen then
    { storeFrame k v s with k := ⟨k.val + 1, h⟩, ph := .xLoad }
  else
    { storeFrame k v s with ph := .tCmdEnd }

/-- TX_SEQ[0] (R65, R122): the byte of exchange 0 is loaded. -/
def execTxSeq0 (s : State) : Host.Outcome State Fault Refusal :=
  .next (loadExchange (Config.txSeq 0) s)

/-- TX_SEQ[1] (R65, R122): the byte of exchange 1 is loaded. -/
def execTxSeq1 (s : State) : Host.Outcome State Fault Refusal :=
  .next (loadExchange (Config.txSeq 1) s)

/-- TX_SEQ[2] (R65, R122): the byte of exchange 2 is loaded. -/
def execTxSeq2 (s : State) : Host.Outcome State Fault Refusal :=
  .next (loadExchange (Config.txSeq 2) s)

/-- TX_SEQ[3] (R65, R122): the byte of exchange 3 is loaded. -/
def execTxSeq3 (s : State) : Host.Outcome State Fault Refusal :=
  .next (loadExchange (Config.txSeq 3) s)

/-- TX_SEQ[4] (R65, R122): the byte of exchange 4 is loaded. -/
def execTxSeq4 (s : State) : Host.Outcome State Fault Refusal :=
  .next (loadExchange (Config.txSeq 4) s)

/-- TX_SEQ[5] (R65, R122): the byte of exchange 5 is loaded. -/
def execTxSeq5 (s : State) : Host.Outcome State Fault Refusal :=
  .next (loadExchange (Config.txSeq 5) s)

/-- TX_SEQ[6] (R65, R122): the byte of exchange 6 is loaded. -/
def execTxSeq6 (s : State) : Host.Outcome State Fault Refusal :=
  .next (loadExchange (Config.txSeq 6) s)

/-- TX_SEQ[7] (R65, R122): the byte of exchange 7 is loaded. -/
def execTxSeq7 (s : State) : Host.Outcome State Fault Refusal :=
  .next (loadExchange (Config.txSeq 7) s)

/-- TX_SEQ[8] (R65, R122): the byte of exchange 8 is loaded. -/
def execTxSeq8 (s : State) : Host.Outcome State Fault Refusal :=
  .next (loadExchange (Config.txSeq 8) s)

/-- F_START (R67): the byte received in exchange 0 becomes `FRAME[0]`; not verified (R146). -/
def execFStart (v : Byte) (s : State) : Host.Outcome State Fault Refusal :=
  .next (storeReceived 0 v s)

/-- F_MODE (R67): the byte received in exchange 1 becomes `FRAME[1]`; the mode byte (R71), looked at by DECODE. -/
def execFMode (v : Byte) (s : State) : Host.Outcome State Fault Refusal :=
  .next (storeReceived 1 v s)

/-- F_CHECK (R67): the byte received in exchange 2 becomes `FRAME[2]`; not verified (R146). -/
def execFCheck (v : Byte) (s : State) : Host.Outcome State Fault Refusal :=
  .next (storeReceived 2 v s)

/-- F_BTN_A (R67): the byte received in exchange 3 becomes `FRAME[3]`; buttons, first byte (R68). -/
def execFBtnA (v : Byte) (s : State) : Host.Outcome State Fault Refusal :=
  .next (storeReceived 3 v s)

/-- F_BTN_B (R67): the byte received in exchange 4 becomes `FRAME[4]`; buttons, second byte (R69). -/
def execFBtnB (v : Byte) (s : State) : Host.Outcome State Fault Refusal :=
  .next (storeReceived 4 v s)

/-- F_RX (R67): the byte received in exchange 5 becomes `FRAME[5]`; right-stick x (R70). -/
def execFRx (v : Byte) (s : State) : Host.Outcome State Fault Refusal :=
  .next (storeReceived 5 v s)

/-- F_RY (R67): the byte received in exchange 6 becomes `FRAME[6]`; right-stick y (R70). -/
def execFRy (v : Byte) (s : State) : Host.Outcome State Fault Refusal :=
  .next (storeReceived 6 v s)

/-- F_LX (R67): the byte received in exchange 7 becomes `FRAME[7]`; left-stick x (R70). -/
def execFLx (v : Byte) (s : State) : Host.Outcome State Fault Refusal :=
  .next (storeReceived 7 v s)

/-- F_LY (R67): the byte received in exchange 8 becomes `FRAME[8]`; left-stick y (R70). -/
def execFLy (v : Byte) (s : State) : Host.Outcome State Fault Refusal :=
  .next (storeReceived 8 v s)

/-- The prologue (R121): `CMD` high, `CLK` high, select active, then one clock-delay; `k <- 0` (R126). -/
def prologue (s : State) : State :=
  { delay Config.tClk (lineWrite .sel true (lineWrite .clk true (lineWrite .cmd true s))) with k := 0 }

/-- The epilogue (R123): `CMD` to `CMD_END_LEVEL`, select inactive, the frame is valid, the operation completes. -/
def epilogue (s : State) : State :=
  complete { lineWrite .sel false (lineWrite .cmd Config.cmdEndLevel s) with frameValid := true }

/-- Whether the exchange that ended here succeeded. -/
def exchangeOk (s : State) : Bool :=
  s.ph == .xOk

/-- The exchanges still to come, in index order (R122), each stored as it succeeds; the first that fails ends the
transaction with its error and no epilogue (R124). -/
def exchanges : List (Fin Config.frameLen) → State → State
  | [], s => epilogue s
  | k :: ks, s =>
    let r := exchangeByte (Config.txSeq k) s
    if exchangeOk r then exchanges ks (storeReceived k r.rxb r) else raiseAckTimeout r

/-- `run_transaction` in whole from its acceptance (R120). -/
def runTransaction (s : State) : State :=
  exchanges (List.finRange Config.frameLen) (prologue s)

end Sys2Proof.Machine
end

