-- ==== Sys2Proof/Machine/Decoder.lean ====
section
/-! DEFINITION. The State Decoder (43_state_decoder R140 to R148): DECODE, and the rows of the frame's mode byte and of its
sixteen buttons, each of which is one part of what DECODE writes. -/

namespace Sys2Proof.Machine

/-- What the decoder writes for the mode and the axes (R140, R144, R145): with axes `ANALOG <- 1` and the four copies; without,
`ANALOG <- 0` and four free bytes (93 U5). -/
def writeAxes (axes : Option Axes) (s : State) : State :=
  match axes with
  | some a => { s with analog := true, lx := a.leftX, ly := a.leftY, rx := a.rightX, ry := a.rightY }
  | none =>
    { s with
      analog := false
      lx := Config.freeByte s.freeCtr
      ly := Config.freeByte (s.freeCtr + 1)
      rx := Config.freeByte (s.freeCtr + 2)
      ry := Config.freeByte (s.freeCtr + 3)
      freeCtr := s.freeCtr + 4 }

/-- `BTN_A <- ~FRAME[3]`, `BTN_B <- ~FRAME[4]` (R140, R148). -/
def writeButtons (f : Vector Byte Config.frameLen) (s : State) : State :=
  { s with btnA := ~~~(f.get 3), btnB := ~~~(f.get 4) }

/-- The frame is consumed and the state is valid (R140): `STATE_VALID <- 1`, `frame_valid <- 0`. -/
def consumeFrame (s : State) : State :=
  { s with stateValid := true, frameValid := false }

/-- DECODE (R140): refused when `BUSY` = 1 or `frame_valid` = 0; otherwise all of it in one step. -/
def execDecode (s : State) : Host.Outcome State Fault Refusal :=
  .next (if s.busy || !s.frameValid then refuse s
    else finish (consumeFrame (writeAxes (decodeFrame s.frame).axes (writeButtons s.frame (accept s)))))

/-- MODE_DIGITAL (R71, R145): `ANALOG <- 0`, the axes unspecified. -/
def execModeDigital (s : State) : Host.Outcome State Fault Refusal :=
  .next (writeAxes none s)

/-- MODE_ANALOG (R71, R145): `ANALOG <- 1`, the axes copied from the frame. The mode byte has no sub-fields. -/
def execModeAnalog (_v : Byte) (s : State) : Host.Outcome State Fault Refusal :=
  .next (writeAxes (some (frameAxes (frameView s))) (afterFrameView s))

/-- One flag of BTN_A (R23, R142): the complement of its bit of frame byte 3. -/
def writeFlagA (bit : Fin 8) (s : State) : State :=
  { afterFrameView s with btnA := setBit s.btnA bit (pressed ((frameView s).get 3) bit) }

/-- One flag of BTN_B (R24, R143): the complement of its bit of frame byte 4. -/
def writeFlagB (bit : Fin 8) (s : State) : State :=
  { afterFrameView s with btnB := setBit s.btnB bit (pressed ((frameView s).get 4) bit) }

/-- select (R142): `!FRAME[3][0]`. -/
def execCtlSelect (s : State) : Host.Outcome State Fault Refusal :=
  .next (writeFlagA 0 s)

/-- left-stick-pressed (R142): `!FRAME[3][1]`. -/
def execCtlLeftStick (s : State) : Host.Outcome State Fault Refusal :=
  .next (writeFlagA 1 s)

/-- right-stick-pressed (R142): `!FRAME[3][2]`. -/
def execCtlRightStick (s : State) : Host.Outcome State Fault Refusal :=
  .next (writeFlagA 2 s)

/-- start (R142): `!FRAME[3][3]`. -/
def execCtlStart (s : State) : Host.Outcome State Fault Refusal :=
  .next (writeFlagA 3 s)

/-- up (R142): `!FRAME[3][4]`. -/
def execCtlUp (s : State) : Host.Outcome State Fault Refusal :=
  .next (writeFlagA 4 s)

/-- right (R142): `!FRAME[3][5]`. -/
def execCtlRight (s : State) : Host.Outcome State Fault Refusal :=
  .next (writeFlagA 5 s)

/-- down (R142): `!FRAME[3][6]`. -/
def execCtlDown (s : State) : Host.Outcome State Fault Refusal :=
  .next (writeFlagA 6 s)

/-- left (R142): `!FRAME[3][7]`. -/
def execCtlLeft (s : State) : Host.Outcome State Fault Refusal :=
  .next (writeFlagA 7 s)

/-- L2 (R143): `!FRAME[4][0]`. -/
def execCtlL2 (s : State) : Host.Outcome State Fault Refusal :=
  .next (writeFlagB 0 s)

/-- R2 (R143): `!FRAME[4][1]`. -/
def execCtlR2 (s : State) : Host.Outcome State Fault Refusal :=
  .next (writeFlagB 1 s)

/-- L1 (R143): `!FRAME[4][2]`. -/
def execCtlL1 (s : State) : Host.Outcome State Fault Refusal :=
  .next (writeFlagB 2 s)

/-- R1 (R143): `!FRAME[4][3]`. -/
def execCtlR1 (s : State) : Host.Outcome State Fault Refusal :=
  .next (writeFlagB 3 s)

/-- triangle (R143): `!FRAME[4][4]`. -/
def execCtlTriangle (s : State) : Host.Outcome State Fault Refusal :=
  .next (writeFlagB 4 s)

/-- circle (R143): `!FRAME[4][5]`. -/
def execCtlCircle (s : State) : Host.Outcome State Fault Refusal :=
  .next (writeFlagB 5 s)

/-- cross (R143): `!FRAME[4][6]`. -/
def execCtlCross (s : State) : Host.Outcome State Fault Refusal :=
  .next (writeFlagB 6 s)

/-- square (R143): `!FRAME[4][7]`. -/
def execCtlSquare (s : State) : Host.Outcome State Fault Refusal :=
  .next (writeFlagB 7 s)

end Sys2Proof.Machine
end

