-- ==== Sys2Proof/Machine/Dispatch.lean ====
section
/-! DEFINITION. Dispatch: one arm per constructor of Instr, each one direct call of its meaning. -/

namespace Sys2Proof.Machine

def exec (i : Instr) (s : State) : Host.Outcome State Fault Refusal :=
  match i with
  | .setClock => Sys2Proof.Machine.execSetClock s
  | .setSelect => Sys2Proof.Machine.execSetSelect s
  | .setCommand => Sys2Proof.Machine.execSetCommand s
  | .readData => Sys2Proof.Machine.execReadData s
  | .readAck => Sys2Proof.Machine.execReadAck s
  | .exchangeByte => Sys2Proof.Machine.execExchangeByte s
  | .runTransaction => Sys2Proof.Machine.execRunTransaction s
  | .decode => Sys2Proof.Machine.execDecode s
  | .reserved rsv op => Sys2Proof.Machine.execReserved rsv op s
  | .poll => Sys2Proof.Machine.execPoll s
  | .wcmdStart => Sys2Proof.Machine.execWcmdStart s
  | .wcmdPoll => Sys2Proof.Machine.execWcmdPoll s
  | .wcmdPad => Sys2Proof.Machine.execWcmdPad s
  | .txSeq0 => Sys2Proof.Machine.execTxSeq0 s
  | .txSeq1 => Sys2Proof.Machine.execTxSeq1 s
  | .txSeq2 => Sys2Proof.Machine.execTxSeq2 s
  | .txSeq3 => Sys2Proof.Machine.execTxSeq3 s
  | .txSeq4 => Sys2Proof.Machine.execTxSeq4 s
  | .txSeq5 => Sys2Proof.Machine.execTxSeq5 s
  | .txSeq6 => Sys2Proof.Machine.execTxSeq6 s
  | .txSeq7 => Sys2Proof.Machine.execTxSeq7 s
  | .txSeq8 => Sys2Proof.Machine.execTxSeq8 s
  | .wbyte out => Sys2Proof.Machine.execWbyte out s
  | .fStart v => Sys2Proof.Machine.execFStart v s
  | .fMode v => Sys2Proof.Machine.execFMode v s
  | .fCheck v => Sys2Proof.Machine.execFCheck v s
  | .fBtnA v => Sys2Proof.Machine.execFBtnA v s
  | .fBtnB v => Sys2Proof.Machine.execFBtnB v s
  | .fRx v => Sys2Proof.Machine.execFRx v s
  | .fRy v => Sys2Proof.Machine.execFRy v s
  | .fLx v => Sys2Proof.Machine.execFLx v s
  | .fLy v => Sys2Proof.Machine.execFLy v s
  | .modeDigital => Sys2Proof.Machine.execModeDigital s
  | .modeAnalog v => Sys2Proof.Machine.execModeAnalog v s
  | .ctlSelect => Sys2Proof.Machine.execCtlSelect s
  | .ctlLeftStick => Sys2Proof.Machine.execCtlLeftStick s
  | .ctlRightStick => Sys2Proof.Machine.execCtlRightStick s
  | .ctlStart => Sys2Proof.Machine.execCtlStart s
  | .ctlUp => Sys2Proof.Machine.execCtlUp s
  | .ctlRight => Sys2Proof.Machine.execCtlRight s
  | .ctlDown => Sys2Proof.Machine.execCtlDown s
  | .ctlLeft => Sys2Proof.Machine.execCtlLeft s
  | .ctlL2 => Sys2Proof.Machine.execCtlL2 s
  | .ctlR2 => Sys2Proof.Machine.execCtlR2 s
  | .ctlL1 => Sys2Proof.Machine.execCtlL1 s
  | .ctlR1 => Sys2Proof.Machine.execCtlR1 s
  | .ctlTriangle => Sys2Proof.Machine.execCtlTriangle s
  | .ctlCircle => Sys2Proof.Machine.execCtlCircle s
  | .ctlCross => Sys2Proof.Machine.execCtlCross s
  | .ctlSquare => Sys2Proof.Machine.execCtlSquare s

end Sys2Proof.Machine
end

