-- ==== Sys2Proof/Machine/Sequencer.lean ====
section
/-! DEFINITION. The sequencer as a step machine, one step per control point (42_frame_transaction R126). At X_LOAD and X_OK of a
transaction the step runs the opcode-table row that stands there: the byte sent, the byte received. -/

namespace Sys2Proof.Machine

/-- Run the row a coded form stands for. -/
def runCode (c : Code) (s : State) : Host.Outcome State Fault Refusal :=
  match decode c with
  | .ok i => exec i s
  | .error why => .refused (.undecodable why)

/-- X_LOAD (R126). -/
def stepXLoad (s : State) : Host.Outcome State Fault Refusal :=
  match s.opRun with
  | .txn => runCode (.txSeq s.k (Config.txSeq s.k)) s
  | .xchg => .next (loadExchange s.txb s)
  | .none => .next (loadExchange s.txb s)

/-- B_CLKHI (R126): after bit 7 the acknowledgement wait, otherwise the next cell. -/
def stepBClkHi (s : State) : State :=
  if h : s.i.val + 1 < 8 then { lineWrite .clk true s with i := ⟨s.i.val + 1, h⟩, ph := .bPre }
  else { lineWrite .clk true s with ph := .aPoll }

/-- A_POLL (R126). -/
def stepAPoll (s : State) : State :=
  { pollAck s with ph := if ackNow s then .aWait else .xOk }

/-- A_WAIT (R126): after the last sample allowed the exchange has failed. -/
def stepAWait (s : State) : State :=
  { delay Config.tHalf s with ph := if s.n = Config.ackPollMax then .xFail else .aPoll }

/-- X_OK (R126). -/
def stepXOk (s : State) : Host.Outcome State Fault Refusal :=
  match s.opRun with
  | .xchg => .next (complete (setResult s.rxb s))
  | .txn => runCode (.frame s.k s.rxb) s
  | .none => .fault .xOkWithoutOperation

/-- One step of the sequencer (R126). At IDLE it has none of its own: it holds its lines and waits. -/
def seqStep (s : State) : Host.Outcome State Fault Refusal :=
  match s.ph with
  | .idle => .next s
  | .tCmdIdle => .next { lineWrite .cmd true s with ph := .tClkIdle }
  | .tClkIdle => .next { lineWrite .clk true s with ph := .tSelOn }
  | .tSelOn => .next { lineWrite .sel true s with ph := .tSetup }
  | .tSetup => .next { delay Config.tClk s with k := 0, ph := .xLoad }
  | .xLoad => stepXLoad s
  | .bPre => .next { delay Config.tClk s with ph := .bCmd }
  | .bCmd => .next { lineWrite .cmd (bitOf s.txb s.i) s with ph := .bClkLo }
  | .bClkLo => .next { lineWrite .clk false s with ph := .bLow }
  | .bLow => .next { delay Config.tClk s with ph := .bSample }
  | .bSample => .next { sampleBit s with ph := .bClkHi }
  | .bClkHi => .next (stepBClkHi s)
  | .aPoll => .next (stepAPoll s)
  | .aWait => .next (stepAWait s)
  | .xOk => stepXOk s
  | .xFail => .next (raiseAckTimeout s)
  | .tCmdEnd => .next { lineWrite .cmd Config.cmdEndLevel s with ph := .tSelOff }
  | .tSelOff => .next (complete { lineWrite .sel false s with frameValid := true })

end Sys2Proof.Machine
end

