-- ==== Sys2Proof/Machine/HostPort.lean ====
section
/-! DEFINITION. The host port: what the next line of the host's script does (20_memory R41, R54; 30_encoding R61, R77, R78), each
access entirely between two steps of the sequencer. -/

namespace Sys2Proof.Machine

/-- The number of host register STATUS (R20). -/
def statusReg : RegNo := 0x02#5

/-- `MemWrite(a, 1, v)` (R41): a write to CMD is decoded and run as a command; any other write sets a register or is ignored. -/
def hostWrite (a : RegNo) (v : Byte) (s : State) : Host.Outcome State Fault Refusal :=
  if a = cmdReg then runCode (.hcmd v) s else .next (writeReg a v s)

/-- One pass of WAIT (R77): read STATUS; while `BUSY` = 1 the line stays and the sequencer goes on. `rest` is the script after it. -/
def waitLine (rest : List HostLine) (s : State) : Host.Outcome State Fault Refusal :=
  if s.busy then seqStep (hostRead statusReg s) else .next { hostRead statusReg s with script := rest }

/-- `if ERR = 0 then WR reg, value` (R78): STATUS is read and its bit 2 tested. -/
def writeIfOk (a : RegNo) (v : Byte) (s : State) : Host.Outcome State Fault Refusal :=
  if s.err then .next (hostRead statusReg s) else hostWrite a v (hostRead statusReg s)

/-- The next line of the script, `rest` being the lines after it. -/
def runLine (l : HostLine) (rest : List HostLine) (s : State) : Host.Outcome State Fault Refusal :=
  match l with
  | .wr a v => hostWrite a v { s with script := rest }
  | .rd a => .next (hostRead a { s with script := rest })
  | .wait => waitLine rest s
  | .wrIfOk a v => writeIfOk a v { s with script := rest }
  | .poll => runCode (.script pollScript) { s with script := rest }
  | .tick => seqStep { s with script := rest }
  | .reset => .next (applyReset { s with script := rest })
  | .wide _ _ => .refused .wideHostAccess

/-- The host line that writes the first byte of a table word to CMD, the place where a command word is fetched. -/
def fetchLine (nbits w : Nat) : List HostLine :=
  (tableBytes nbits w).take 1 |>.map fun v => .wr cmdReg v

end Sys2Proof.Machine
end

