-- ==== Sys2Proof/Machine/Step.lean ====
section
/-! DEFINITION. One step of the machine: the next line of the host's script if there is one, otherwise one step of the sequencer
(20_memory R41, R49; log entry 6), and the host's way to place a command word. -/

namespace Sys2Proof.Machine

def step (s : State) : Host.Outcome State Fault Refusal :=
  match s.script with
  | [] => seqStep s
  | l :: rest => runLine l rest s

/-- The command word is written to CMD by the next host access (log entry 8). -/
def State.withFetchWord (s : State) (nbits w : Nat) : State :=
  { s with script := fetchLine nbits w ++ s.script }

end Sys2Proof.Machine
end

