-- ==== Sys2Proof/Safety.lean ====
section
/-! DEFINITION. The terms claims are stated in: the groups of R10's tuple, the invariants of R30 with what they need to be
kept by a step, and the traces of R105 and R120 in the order their events happen. -/

namespace Sys2Proof.Machine

/-- The three output latches (R11). -/
def linesOf (s : State) : Bool × Bool × Bool :=
  (s.clk, s.cmd, s.sel)

/-- The operand and the result, with whether the result has a value the spec gives (R13, R21). -/
def operandsOf (s : State) : Byte × Byte × Bool :=
  (s.arg, s.result, s.resultKnown)

/-- The frame buffer (R13, R14). -/
def frameOf (s : State) : Vector Byte Config.frameLen × Bool :=
  (s.frame, s.frameValid)

/-- The shift registers (R13). -/
def shiftOf (s : State) : Byte × Byte :=
  (s.txb, s.rxb)

/-- The sequencer position (R15). -/
def positionOf (s : State) : OpRun × Phase × Fin Config.frameLen × Fin 8 × Nat :=
  (s.opRun, s.ph, s.k, s.i, s.n)

/-- The status flags (R17). -/
def statusOf (s : State) : Bool × Bool × Bool × Bool × BitVec 4 :=
  (s.busy, s.done, s.err, s.refused, s.errIndex)

/-- The STATE registers: the controller state (R23 to R26). -/
def padOf (s : State) : Byte × Byte × Byte × Byte × Byte × Byte × Bool × Bool :=
  (s.btnA, s.btnB, s.lx, s.ly, s.rx, s.ry, s.analog, s.stateValid)

/-- What two states agree in when they agree in all of R10's tuple (and in whether RESULT has a value). -/
def SameSspc (s t : State) : Prop :=
  linesOf t = linesOf s ∧ operandsOf t = operandsOf s ∧ frameOf t = frameOf s ∧ shiftOf t = shiftOf s ∧
    positionOf t = positionOf s ∧ statusOf t = statusOf s ∧ padOf t = padOf s

/-- What two states agree in when the outside world's side is the same: the lines still to come, the samples still to come,
the trace, the host's last read. -/
def SameOutside (s t : State) : Prop :=
  t.script = s.script ∧ t.datIn = s.datIn ∧ t.ackIn = s.ackIn ∧ t.trace = s.trace ∧ t.rdData = s.rdData

/-- The control points only a transaction reaches (R126). -/
def Phase.transactionOnly : Phase → Bool
  | .tCmdIdle | .tClkIdle | .tSelOn | .tSetup | .tCmdEnd | .tSelOff => true
  | _ => false

/-- The control points of a transaction before select is active (R30, 3). -/
def Phase.beforeSelect : Phase → Bool
  | .tCmdIdle | .tClkIdle | .tSelOn => true
  | _ => false

/-- The control points at which `clk` = 1 inside a transaction: those of R30 (4), and those between that keep them so. -/
def Phase.clockHigh : Phase → Bool
  | .tSelOn | .tSetup | .xLoad | .bPre | .bCmd | .bClkLo | .aPoll | .aWait | .xOk | .xFail | .tCmdEnd | .tSelOff => true
  | _ => false

/-- The control points at which `clk` = 0 (R30, 4). -/
def Phase.clockLow : Phase → Bool
  | .bLow | .bSample | .bClkHi => true
  | _ => false

/-- The control points of a bit cell (R126). -/
def Phase.inCell : Phase → Bool
  | .bPre | .bCmd | .bClkLo | .bLow | .bSample | .bClkHi => true
  | _ => false

/-- The invariants of R30, R15 and R20, R30 (2) in the form log entry 9 gives. `k ≤ 8` and `i ≤ 7` of R30 (5) are the types of the fields; R30 (7) is about a step, not
a state. -/
structure Inv (s : State) : Prop where
  /-- R30 (1). -/
  busy_iff : s.busy = true ↔ s.ph ≠ .idle
  /-- R15: `ph` = IDLE exactly when `op_run` = NONE. -/
  idle_iff : s.opRun = .none ↔ s.ph = .idle
  /-- R126: the T points belong to a transaction. -/
  transaction_points : s.ph.transactionOnly = true → s.opRun = .txn
  /-- R14, R54: `frame_valid` is 0 for the whole of a transaction. R30 (2) says more, `BUSY` = 0, which R100 and R14 contradict
  for a stand-alone EXCHANGE_BYTE accepted while `frame_valid` = 1 (log entry 9). -/
  frame_valid_no_transaction : s.frameValid = true → s.opRun ≠ .txn
  /-- R30 (3). -/
  select_active : s.opRun = .txn → s.ph.beforeSelect = false → s.sel = true
  /-- R30 (4). -/
  clock_high : s.opRun = .txn → s.ph.clockHigh = true → s.clk = true
  /-- R30 (4). -/
  clock_low : s.ph.clockLow = true → s.clk = false
  /-- R30 (5). -/
  polls_bounded : s.n ≤ Config.ackPollMax
  /-- R16: `n` is 0 in the cells of an exchange. -/
  polls_zero : s.ph.inCell = true → s.n = 0
  /-- R126: a poll is made only while fewer than `ACK_POLL_MAX` were. -/
  polls_left : s.ph = .aPoll → s.n < Config.ackPollMax
  /-- R103: an exchange fails after exactly `ACK_POLL_MAX` samples. -/
  polls_spent : s.ph = .xFail → s.n = Config.ackPollMax
  /-- R30 (6). -/
  err_index_le : s.errIndex.toNat ≤ 8
  /-- R20. -/
  busy_status : s.busy = true → s.done = false ∧ s.err = false
  /-- R20. -/
  err_done : s.err = true → s.done = true
  /-- R20. -/
  err_index_err : s.errIndex ≠ 0#4 → s.err = true
  /-- R26: axes are meaningful only in a decoded state. -/
  analog_valid : s.analog = true → s.stateValid = true

/-- The events of bit cell `i` (R102), in order. -/
def cellEvents (out rx : Byte) (i : Fin 8) : List Event :=
  [.delay 10, .write .cmd (out.getLsbD i), .write .clk false, .delay 10, .read .dat (rx.getLsbD i), .write .clk true]

/-- The events of the eight cells (R101), in order. -/
def cellsEvents (out rx : Byte) : List Event :=
  (List.finRange 8).flatMap (cellEvents out rx)

/-- `active` samples of `ACK` that read active, each with its delay (R103). -/
def activePolls (active : Nat) : List Event :=
  (List.replicate active [Event.read .ack true, Event.delay 5]).flatten

/-- What the trace says of the acknowledgement wait a state stands in (R101, R103): its newest events are the `n` samples taken, all
active, each with its delay; at A_WAIT the last sample's delay is still to come. -/
structure PollsTraced (s : State) : Prop where
  /-- At A_POLL, the next sample to come. -/
  at_poll : s.ph = .aPoll → ∃ older, s.trace = (activePolls s.n).reverse ++ older
  /-- At A_WAIT, after an active sample. -/
  at_wait : s.ph = .aWait → ∃ m older, s.n = m + 1 ∧ s.trace = .read .ack true :: (activePolls m).reverse ++ older
  /-- At X_FAIL, all samples taken. -/
  at_fail : s.ph = .xFail → ∃ older, s.trace = (activePolls s.n).reverse ++ older

/-- The trace of an exchange that succeeds after `active` active samples (R105). -/
def successEvents (out rx : Byte) (active : Nat) : List Event :=
  cellsEvents out rx ++ activePolls active ++ [.read .ack false]

/-- The trace of an exchange that times out (R105). -/
def timeoutEvents (out rx : Byte) : List Event :=
  cellsEvents out rx ++ activePolls 50

/-- `m` steps of the machine (Host/Core.lean). -/
abbrev run (m : Nat) (s : State) : Host.Outcome State Fault Refusal :=
  Sys2Proof.core.run m s

/-- The meanings of several instructions one after the other, up to the first that stops. -/
def execAll : List Instr → State → Host.Outcome State Fault Refusal
  | [], s => .next s
  | i :: is, s =>
    match exec i s with
    | .next t => execAll is t
    | .fault r => .fault r
    | .refused r => .refused r

/-- The `DAT` samples of a device that presents the bytes of `f` (95, device script). -/
def frameSamples (f : Vector Byte Config.frameLen) (ks : List (Fin Config.frameLen)) : List Bool :=
  ks.flatMap fun k => wireBits (f.get k)

/-- The `ACK` samples of a device that holds `ACK` active for `p k` samples of exchange `k` and then lets it go. -/
def pollSamples (p : Fin Config.frameLen → Nat) (ks : List (Fin Config.frameLen)) : List Bool :=
  ks.flatMap fun k => List.replicate (p k) true ++ [false]

end Sys2Proof.Machine
end

