-- ==== Sys2Proof/Certificates/Slice0/Obligations.lean ====
section
/-! DEFINITION. The statements for the provers, one Prop each; OBLIGATIONS.json lists them. -/

open Sys2Proof Sys2Proof.Machine

/-! ## Encoding -/

/-- Words written out from the tables of R62, R64, R65, R66, R67, R68, R69 and R74. -/
def Obligations.WordsOfTheSpecDecode : Prop :=
  decode (.hcmd 0b00000000#8) = .ok .setClock ∧ decode (.hcmd 0b00000101#8) = .ok .exchangeByte ∧
  decode (.hcmd 0b00000110#8) = .ok .runTransaction ∧ decode (.hcmd 0b00000111#8) = .ok .decode ∧
  decode (.hcmd 0b00001110#8) = .ok (.reserved 0b00001#5 0b110#3) ∧
  decode (.wcmd 0b01000010#8) = .ok .wcmdPoll ∧ decode (.txSeq 8 0b11111111#8) = .ok .txSeq8 ∧
  decode (.wbyte [false, true, false, false, false, false, true, false]) = .ok (.wbyte 0x42#8) ∧
  decode (.frame 5 0x1E#8) = .ok (.fRx 0x1E#8) ∧
  decode (.button 3 4 0b11101111#8) = .ok .ctlUp ∧ decode (.button 4 6 0b10111111#8) = .ok .ctlCross ∧
  decode (.button 3 4 0b11111111#8) = .error (.released 3 4)

/-- Decoding the coded form of any well-formed instruction gives it back, at every value of its operands. -/
def Obligations.DecodeOfEncodeIsTheInstruction : Prop :=
  ∀ i : Instr, i.wellFormed = true → decode (encode i) = .ok i

/-- R62, R74: every byte is the command word of exactly one well-formed instruction, the one the decoder gives, and it is a
reserved one exactly for the 248 bytes 0x08 to 0xFF. -/
def Obligations.EveryCommandByteHasOneRow : Prop :=
  ∀ v : Byte, (decodeHcmd v).wellFormed = true ∧ encode (decodeHcmd v) = .hcmd v ∧
    (∀ i : Instr, i.wellFormed = true → encode i = .hcmd v → i = decodeHcmd v) ∧
    (8 ≤ v.toNat ↔ decodeHcmd v = .reserved (v.extractLsb' 3 5) (v.extractLsb' 0 3))

/-! ## A step runs the decoded instruction -/

/-- R41, R61: when the host's next line writes `v` to CMD and `v` decodes to `i`, the step is `exec i` in the state whose script has
moved past that line. -/
def Obligations.StepRunsTheCommandWritten : Prop :=
  ∀ (s : State) (v : Byte) (i : Instr) (rest : List HostLine),
    s.script = .wr 0x00#5 v :: rest → decode (.hcmd v) = .ok i → step s = exec i { s with script := rest }

/-- The same for the word the host places. Both halves are the model's choice: that a bare table word is read as a byte written to CMD is
log entry 1, that placing it makes it the next such write is log entry 8. -/
def Obligations.StepRunsTheFetchedWord : Prop :=
  ∀ (s : State) (v : Byte), decodeTableWord 8 v.toNat = some (decodeHcmd v) ∧
    step (s.withFetchWord 8 v.toNat) = exec (decodeHcmd v) s

/-- With no host line to run, at X_LOAD of a transaction the step is `exec` of the row the byte of the sequence decodes to, and at X_OK of a
transaction `exec` of the row the received byte decodes to. R126 gives the actions at these control points; that they are run as `exec` of
an opcode-table row is the model's choice (log entry 15). -/
def Obligations.StepRunsTheRowOfTheByte : Prop :=
  ∀ (s : State) (i : Instr), s.script = [] → s.opRun = .txn →
    (s.ph = .xLoad → decode (.txSeq s.k (Config.txSeq s.k)) = .ok i → step s = exec i s) ∧
    (s.ph = .xOk → decode (.frame s.k s.rxb) = .ok i → step s = exec i s)

/-- R78: a POLL line is run as the pseudo-operation, whose effect is that the host's next lines are
`WR CMD, 0x06; WAIT; if ERR = 0 then WR CMD, 0x07`. -/
def Obligations.PollStandsForItsScript : Prop :=
  ∀ (s : State) (rest : List HostLine),
    exec .poll s = .next { s with script := .wr 0x00#5 0x06#8 :: .wait :: .wrIfOk 0x00#5 0x07#8 :: s.script } ∧
    (s.script = .poll :: rest → step s = exec .poll { s with script := rest })

/-- R41, R77 (log entry 6, the model's choice of turns): the line WAIT reads STATUS at every step; while `BUSY` = 1 it stays and the
sequencer takes its step, and when `BUSY` = 0 the script goes on. -/
def Obligations.WaitLastsWhileBusy : Prop :=
  ∀ (s : State) (rest : List HostLine), s.script = .wait :: rest →
    (s.busy = true → step s = seqStep { s with rdData := statusByte s }) ∧
    (s.busy = false → step s = .next { s with rdData := statusByte s, script := rest })

/-! ## The eight commands -/

/-- R91, R92, R93: while `BUSY` = 0 each writes `ARG[0]` to its own latch, emits that one event and ends with `DONE` = 1, the other flags
cleared; while `BUSY` = 1 it is refused. The pin of select is at `SEL_ACTIVE_LEVEL` exactly when the latch is 1. -/
def Obligations.LineWritesDriveTheirLatch : Prop :=
  ∀ s : State,
    (s.busy = false →
      exec .setClock s = .next { s with
        clk := s.arg.getLsbD 0, trace := .write .clk (s.arg.getLsbD 0) :: s.trace
        done := true, err := false, refused := false, errIndex := 0#4 } ∧
      exec .setSelect s = .next { s with
        sel := s.arg.getLsbD 0, trace := .write .sel (s.arg.getLsbD 0) :: s.trace
        done := true, err := false, refused := false, errIndex := 0#4 } ∧
      exec .setCommand s = .next { s with
        cmd := s.arg.getLsbD 0, trace := .write .cmd (s.arg.getLsbD 0) :: s.trace
        done := true, err := false, refused := false, errIndex := 0#4 }) ∧
    (s.busy = true →
      exec .setClock s = .next { s with refused := true } ∧ exec .setSelect s = .next { s with refused := true } ∧
      exec .setCommand s = .next { s with refused := true }) ∧
    (s.sel = true → pinLevel .sel s = Config.selActiveLevel) ∧ (s.sel = false → pinLevel .sel s = !Config.selActiveLevel)

/-- R94, R95: while `BUSY` = 0 each takes one sample, which may be either bit, zero-extends it to `RESULT`, emits that one event and ends
with `DONE` = 1; while `BUSY` = 1 it is refused. A sample of `ACK` is logical: 1 when the pin is at `ACK_ACTIVE_LEVEL`. -/
def Obligations.LineReadsReturnTheSample : Prop :=
  ∀ s : State,
    (s.busy = false →
      exec .readData s = .next { s with
        result := if datNow s then 0x01#8 else 0x00#8, resultKnown := true, datIn := s.datIn.tail
        trace := .read .dat (datNow s) :: s.trace, done := true, err := false, refused := false, errIndex := 0#4 } ∧
      exec .readAck s = .next { s with
        result := if ackNow s then 0x01#8 else 0x00#8, resultKnown := true, ackIn := s.ackIn.tail
        trace := .read .ack (ackNow s) :: s.trace, done := true, err := false, refused := false, errIndex := 0#4 }) ∧
    (s.busy = true →
      exec .readData s = .next { s with refused := true } ∧ exec .readAck s = .next { s with refused := true }) ∧
    (∀ (b : Bool) (bs : List Bool), (s.datIn = b :: bs → datNow s = b) ∧ (s.ackIn = b :: bs → ackNow s = b)) ∧
    (∀ b : Bool, inputLevel .dat b = b ∧ inputLevel .ack b = if b then Config.ackActiveLevel else !Config.ackActiveLevel)

/-- R61, R161, R166: a command byte is refused exactly when `BUSY` = 1, or bits 7:3 are not zero, or it is DECODE with no valid frame, and a
refusal sets `REFUSED` and changes nothing else; any other is accepted, which clears `REFUSED`, `ERR` and `ERR_INDEX`, and a one-step operation
is done at once where a many-step one is now running. -/
def Obligations.CommandsAreAcceptedOrRefused : Prop :=
  ∀ (s : State) (v : Byte),
    ((s.busy = true ∨ 8 ≤ v.toNat ∨ (v = 0x07#8 ∧ s.frameValid = false)) →
      exec (decodeHcmd v) s = .next { s with refused := true }) ∧
    (¬(s.busy = true ∨ 8 ≤ v.toNat ∨ (v = 0x07#8 ∧ s.frameValid = false)) →
      ∃ t, exec (decodeHcmd v) s = .next t ∧ t.refused = false ∧ t.err = false ∧ t.errIndex = 0#4 ∧
        ((v = 0x05#8 ∨ v = 0x06#8) → t.busy = true ∧ t.done = false) ∧
        (¬(v = 0x05#8 ∨ v = 0x06#8) → t.busy = false ∧ t.done = true))

/-- R74: a reserved command word is refused in every state. -/
def Obligations.ReservedWordsAreRefused : Prop :=
  ∀ (s : State) (rsv : BitVec 5) (op : BitVec 3), exec (.reserved rsv op) s = .next { s with refused := true }

/-- R100, R120, the acceptance: what EXCHANGE_BYTE and RUN_TRANSACTION do in the step that accepts them. -/
def Obligations.ManyStepOperationsStart : Prop :=
  ∀ s : State, s.busy = false →
    exec .exchangeByte s = .next { s with
      busy := true, opRun := .xchg, txb := s.arg, ph := .xLoad
      done := false, err := false, refused := false, errIndex := 0#4 } ∧
    exec .runTransaction s = .next { s with
      busy := true, opRun := .txn, frameValid := false, ph := .tCmdIdle
      done := false, err := false, refused := false, errIndex := 0#4 }

/-- R140, analog mode: what an accepted DECODE writes when frame byte 1 is not the sentinel, all in one step. -/
def Obligations.DecodeInAnalogMode : Prop :=
  ∀ s : State, s.busy = false → s.frameValid = true → s.frame.get 1 ≠ Config.digitalModeSentinel →
    exec .decode s = .next { s with
      btnA := ~~~(s.frame.get 3), btnB := ~~~(s.frame.get 4)
      lx := s.frame.get 7, ly := s.frame.get 8, rx := s.frame.get 5, ry := s.frame.get 6
      analog := true, stateValid := true, frameValid := false
      done := true, err := false, refused := false, errIndex := 0#4 }

/-- R140, R145, digital mode: the same with `ANALOG` = 0; the four axes hold whatever they hold, and the host reads none of them as a value. -/
def Obligations.DecodeInDigitalMode : Prop :=
  ∀ s : State, s.busy = false → s.frameValid = true → s.frame.get 1 = Config.digitalModeSentinel →
    ∃ t, exec .decode s = .next t ∧
      t = { s with
        btnA := ~~~(s.frame.get 3), btnB := ~~~(s.frame.get 4)
        lx := t.lx, ly := t.ly, rx := t.rx, ry := t.ry, freeCtr := t.freeCtr
        analog := false, stateValid := true, frameValid := false
        done := true, err := false, refused := false, errIndex := 0#4 } ∧
      regValue 0x0F#5 t = none ∧ regValue 0x10#5 t = none ∧ regValue 0x11#5 t = none ∧ regValue 0x12#5 t = none

/-- R142, R143, R144, R145: the sixteen flags are the complements of their bits, the axes are copied exactly in analog mode; R148: packed at
their bits the flags are the complements of bytes 3 and 4. -/
def Obligations.DecodedRecordFollowsTheBitTable : Prop :=
  ∀ f : Vector Byte 9,
    (decodeFrame f).select = !(f.get 3).getLsbD 0 ∧ (decodeFrame f).leftStickPressed = !(f.get 3).getLsbD 1 ∧
    (decodeFrame f).rightStickPressed = !(f.get 3).getLsbD 2 ∧ (decodeFrame f).start = !(f.get 3).getLsbD 3 ∧
    (decodeFrame f).up = !(f.get 3).getLsbD 4 ∧ (decodeFrame f).right = !(f.get 3).getLsbD 5 ∧
    (decodeFrame f).down = !(f.get 3).getLsbD 6 ∧ (decodeFrame f).left = !(f.get 3).getLsbD 7 ∧
    (decodeFrame f).l2 = !(f.get 4).getLsbD 0 ∧ (decodeFrame f).r2 = !(f.get 4).getLsbD 1 ∧
    (decodeFrame f).l1 = !(f.get 4).getLsbD 2 ∧ (decodeFrame f).r1 = !(f.get 4).getLsbD 3 ∧
    (decodeFrame f).triangle = !(f.get 4).getLsbD 4 ∧ (decodeFrame f).circle = !(f.get 4).getLsbD 5 ∧
    (decodeFrame f).cross = !(f.get 4).getLsbD 6 ∧ (decodeFrame f).square = !(f.get 4).getLsbD 7 ∧
    ((decodeFrame f).analog = false ↔ f.get 1 = Config.digitalModeSentinel) ∧
    ((decodeFrame f).analog = true → (decodeFrame f).axes =
      some { leftX := f.get 7, leftY := f.get 8, rightX := f.get 5, rightY := f.get 6 }) ∧
    ((decodeFrame f).analog = false → (decodeFrame f).axes = none) ∧
    packA (decodeFrame f) = ~~~(f.get 3) ∧ packB (decodeFrame f) = ~~~(f.get 4)

/-- R146: `decode` gives the same record, and DECODE the same STATE registers and the same flags, whatever frame bytes 0 and 2 are; the axes
are compared where they have values, with `ANALOG` = 1 (R144). -/
def Obligations.DecodeIgnoresBytesZeroAndTwo : Prop :=
  ∀ (s : State) (b0 b2 : Byte), ∃ t u, exec .decode s = .next t ∧
    exec .decode { s with frame := (s.frame.set 0 b0).set 2 b2 } = .next u ∧ statusOf u = statusOf t ∧
    u.btnA = t.btnA ∧ u.btnB = t.btnB ∧ u.analog = t.analog ∧ u.stateValid = t.stateValid ∧
    (t.analog = true → u.lx = t.lx ∧ u.ly = t.ly ∧ u.rx = t.rx ∧ u.ry = t.ry) ∧
    decodeFrame ((s.frame.set 0 b0).set 2 b2) = decodeFrame s.frame

/-! ## The rows inside an operation -/

/-- Each byte of the sequence, loaded for its exchange: the bytes are R65's and R122's, the action is R126's at X_LOAD; that a TX_SEQ row is
this action, on any state, is the model's choice (log entry 15). -/
def Obligations.SequenceBytesAreLoaded : Prop :=
  ∀ s : State,
    exec .txSeq0 s = .next { s with txb := 0x01#8, i := 0, n := 0, ph := .bPre } ∧
    exec .txSeq1 s = .next { s with txb := 0x42#8, i := 0, n := 0, ph := .bPre } ∧
    (∀ i ∈ [Instr.txSeq2, .txSeq3, .txSeq4, .txSeq5, .txSeq6, .txSeq7, .txSeq8],
      exec i s = .next { s with txb := 0xFF#8, i := 0, n := 0, ph := .bPre })

/-- R22, R67, R126: the byte received in exchange `k` becomes `FRAME[k]`; after the first eight the next exchange comes, after the ninth the
epilogue. That an F_ row is this action of X_OK for its own `k`, on any state and with the received byte as operand, is the model's choice
(log entry 15). -/
def Obligations.ReceivedBytesAreStored : Prop :=
  ∀ (s : State) (v : Byte),
    exec (.fStart v) s = .next { s with frame := s.frame.set 0 v, k := 1, ph := .xLoad } ∧
    exec (.fMode v) s = .next { s with frame := s.frame.set 1 v, k := 2, ph := .xLoad } ∧
    exec (.fCheck v) s = .next { s with frame := s.frame.set 2 v, k := 3, ph := .xLoad } ∧
    exec (.fBtnA v) s = .next { s with frame := s.frame.set 3 v, k := 4, ph := .xLoad } ∧
    exec (.fBtnB v) s = .next { s with frame := s.frame.set 4 v, k := 5, ph := .xLoad } ∧
    exec (.fRx v) s = .next { s with frame := s.frame.set 5 v, k := 6, ph := .xLoad } ∧
    exec (.fRy v) s = .next { s with frame := s.frame.set 6 v, k := 7, ph := .xLoad } ∧
    exec (.fLx v) s = .next { s with frame := s.frame.set 7 v, k := 8, ph := .xLoad } ∧
    exec (.fLy v) s = .next { s with frame := s.frame.set 8 v, ph := .tCmdEnd }

/-- Sending one of the three bytes R66 gives a role runs eight bit cells (R64, R72), whose events are R102's in order; a device that presents
`v` on `DAT` is received as `v`. That the row is these eight cells up to the acknowledgement window, on any state, is the model's choice
(log entry 15). -/
def Obligations.RoleBytesGoOutBitByBit : Prop :=
  ∀ (s : State) (v : Byte) (ds : List Bool), s.datIn = wireBits v ++ ds →
    exec .wcmdStart s = .next { s with
      txb := 0x01#8, rxb := v, i := 7, n := 0, ph := .aPoll, clk := true, cmd := false, datIn := ds
      trace := (cellsEvents 0x01#8 v).reverse ++ s.trace } ∧
    exec .wcmdPoll s = .next { s with
      txb := 0x42#8, rxb := v, i := 7, n := 0, ph := .aPoll, clk := true, cmd := false, datIn := ds
      trace := (cellsEvents 0x42#8 v).reverse ++ s.trace } ∧
    exec .wcmdPad s = .next { s with
      txb := 0xFF#8, rxb := v, i := 7, n := 0, ph := .aPoll, clk := true, cmd := true, datIn := ds
      trace := (cellsEvents 0xFF#8 v).reverse ++ s.trace }

/-- Whatever the samples of `DAT` are, sending one of the three bytes R66 gives a role ends at the acknowledgement window with all eight cells
(R64, R72) done: some byte `v` is received, eight samples are taken, and nothing else changes. That the row is these eight cells, on any state,
is the model's choice (log entry 15). -/
def Obligations.RoleBytesGoOutWhateverTheSamples : Prop :=
  ∀ s : State, ∀ p ∈ [(Instr.wcmdStart, 0x01#8), (.wcmdPoll, 0x42#8), (.wcmdPad, 0xFF#8)],
    ∃ v : Byte, exec p.1 s = .next { s with
      txb := p.2, rxb := v, i := 7, n := 0, ph := .aPoll, clk := true, cmd := p.2.getLsbD 7, datIn := s.datIn.drop 8
      trace := (cellsEvents p.2 v).reverse ++ s.trace }

/-- R104, R105, R106, R107: an exchange in which the device presents `v` and holds `ACK` active for `m` < 50 samples succeeds at sample
`m` + 1 with `v`; its trace, its lines, its event count and its duration. -/
def Obligations.ExchangeReceivesTheDeviceByte : Prop :=
  ∀ (s : State) (out v : Byte) (m : Nat) (ds as : List Bool), m < 50 →
    s.datIn = wireBits v ++ ds → s.ackIn = List.replicate m true ++ false :: as →
    exec (.wbyte out) s = .next { s with
      txb := out, rxb := v, i := 7, n := m + 1, ph := .xOk, clk := true, cmd := out.getLsbD 7
      datIn := ds, ackIn := as, trace := (successEvents out v m).reverse ++ s.trace } ∧
    (successEvents out v m).length = 48 + 2 * (m + 1) - 1 ∧ elapsed (successEvents out v m) = 160 + 5 * m

/-- R103, R104, R105, R160: an exchange in which the first 50 samples of `ACK` read active fails after exactly those 50. -/
def Obligations.ExchangeFailsAfterFiftyPolls : Prop :=
  ∀ (s : State) (out v : Byte) (ds as : List Bool),
    s.datIn = wireBits v ++ ds → s.ackIn = List.replicate 50 true ++ as →
    exec (.wbyte out) s = .next { s with
      txb := out, rxb := v, i := 7, n := 50, ph := .xFail, clk := true, cmd := out.getLsbD 7
      datIn := ds, ackIn := as, trace := (timeoutEvents out v).reverse ++ s.trace } ∧
    (timeoutEvents out v).length = 148 ∧ elapsed (timeoutEvents out v) = 410

/-- R106, R101: whatever the samples are, an exchange ends in success or in timeout, with 8 samples of `DAT` and `n` samples of `ACK` taken, the
clock high, the last bit on the command line and select untouched. -/
def Obligations.ExchangeAlwaysEnds : Prop :=
  ∀ (s : State) (out : Byte), ∃ t es, exec (.wbyte out) s = .next t ∧ (t.ph = .xOk ∨ (t.ph = .xFail ∧ t.n = 50)) ∧
    1 ≤ t.n ∧ t.n ≤ 50 ∧ t.clk = true ∧ t.cmd = out.getLsbD 7 ∧ t.sel = s.sel ∧ t.datIn = s.datIn.drop 8 ∧
    t.ackIn = s.ackIn.drop t.n ∧ t.trace = es ++ s.trace ∧
    (es.filter fun e => e == .read .dat true || e == .read .dat false).length = 8 ∧
    (es.filter fun e => e == .read .ack true || e == .read .ack false).length = t.n

/-- R68, R69, R142, R143: each button row writes its one flag, the complement of its frame bit wherever the frame has values, and every other bit
of its register and all else stays (but for the free bytes drawn where the frame has none). R142 and R143 give the flags; that a row alone
writes its one bit, on any state, is the model's choice (log entry 15, with log entry 4 for the free bytes). -/
def Obligations.ButtonRowsWriteTheirFlag : Prop :=
  ∀ s : State,
    (∀ p ∈ [(Instr.ctlSelect, (0 : Fin 8)), (.ctlLeftStick, 1), (.ctlRightStick, 2), (.ctlStart, 3), (.ctlUp, 4), (.ctlRight, 5), (.ctlDown, 6),
        (.ctlLeft, 7)],
      ∃ t, exec p.1 s = .next t ∧ t = { s with btnA := t.btnA, freeCtr := t.freeCtr } ∧
        (∀ j : Fin 8, j ≠ p.2 → t.btnA.getLsbD j = s.btnA.getLsbD j) ∧
        (s.frameValid = true → s.busy = false →
          t.btnA.getLsbD p.2 = !(s.frame.get 3).getLsbD p.2 ∧ t.freeCtr = s.freeCtr)) ∧
    (∀ p ∈ [(Instr.ctlL2, (0 : Fin 8)), (.ctlR2, 1), (.ctlL1, 2), (.ctlR1, 3), (.ctlTriangle, 4), (.ctlCircle, 5), (.ctlCross, 6), (.ctlSquare, 7)],
      ∃ t, exec p.1 s = .next t ∧ t = { s with btnB := t.btnB, freeCtr := t.freeCtr } ∧
        (∀ j : Fin 8, j ≠ p.2 → t.btnB.getLsbD j = s.btnB.getLsbD j) ∧
        (s.frameValid = true → s.busy = false →
          t.btnB.getLsbD p.2 = !(s.frame.get 4).getLsbD p.2 ∧ t.freeCtr = s.freeCtr))

/-- R71, R144, R145: the mode rows set `ANALOG`; in digital mode the axes hold whatever they hold; in analog mode, for every mode byte but the
sentinel, they are the frame's bytes wherever the frame has values. That a row alone writes this part, on any state, is the model's choice
(log entry 15, with log entry 4 for the free bytes). -/
def Obligations.ModeRowsWriteAxes : Prop :=
  ∀ (s : State) (v : Byte),
    (∃ t, exec .modeDigital s = .next t ∧
      t = { s with analog := false, lx := t.lx, ly := t.ly, rx := t.rx, ry := t.ry, freeCtr := t.freeCtr }) ∧
    ((Instr.modeAnalog v).wellFormed = true → ∃ t, exec (.modeAnalog v) s = .next t ∧
      t = { s with analog := true, lx := t.lx, ly := t.ly, rx := t.rx, ry := t.ry, freeCtr := t.freeCtr } ∧
      (s.frameValid = true → s.busy = false →
        t.lx = s.frame.get 7 ∧ t.ly = s.frame.get 8 ∧ t.rx = s.frame.get 5 ∧ t.ry = s.frame.get 6 ∧ t.freeCtr = s.freeCtr))

/-- R140: what an accepted DECODE leaves in BTN_A, BTN_B and `ANALOG`, and in the four axes when `ANALOG` = 1, is what seventeen rows write one
after the other: the sixteen buttons and the row the mode byte decodes to. What a row alone does is the model's choice (log entry 15). -/
def Obligations.DecodeIsTheWorkOfItsRows : Prop :=
  ∀ (s : State) (m : Instr), s.busy = false → s.frameValid = true → decode (.mode (s.frame.get 1)) = .ok m →
    ∃ t u, exec .decode s = .next t ∧
      execAll [.ctlSelect, .ctlLeftStick, .ctlRightStick, .ctlStart, .ctlUp, .ctlRight, .ctlDown, .ctlLeft, .ctlL2, .ctlR2, .ctlL1, .ctlR1,
        .ctlTriangle, .ctlCircle, .ctlCross, .ctlSquare, m] s = .next u ∧
      u.btnA = t.btnA ∧ u.btnB = t.btnB ∧ u.analog = t.analog ∧
      (t.analog = true → u.lx = t.lx ∧ u.ly = t.ly ∧ u.rx = t.rx ∧ u.ry = t.ry)

/-! ## Frames: what an instruction leaves unchanged -/

/-- R90: the five line operations change no frame, no STATE register, no position, no `ARG`, no `BUSY`, and no line but their own; only the two
reads write `RESULT`; an accepted one emits exactly one event and ends with `DONE` = 1 and no error. -/
def Obligations.FrameOfTheLineOperations : Prop :=
  ∀ i ∈ [Instr.setClock, .setSelect, .setCommand, .readData, .readAck], ∀ s t : State, exec i s = .next t →
    frameOf t = frameOf s ∧ shiftOf t = shiftOf s ∧ positionOf t = positionOf s ∧ padOf t = padOf s ∧ t.arg = s.arg ∧
    t.busy = s.busy ∧ t.script = s.script ∧ t.rdData = s.rdData ∧ t.freeCtr = s.freeCtr ∧
    (i ≠ .setClock → t.clk = s.clk) ∧ (i ≠ .setCommand → t.cmd = s.cmd) ∧ (i ≠ .setSelect → t.sel = s.sel) ∧
    (i ≠ .readData → t.datIn = s.datIn) ∧ (i ≠ .readAck → t.ackIn = s.ackIn) ∧
    (i ≠ .readData → i ≠ .readAck → t.result = s.result ∧ t.resultKnown = s.resultKnown) ∧
    (s.busy = false → t.done = true ∧ t.err = false ∧ ∃ e, t.trace = e :: s.trace)

/-- R100, R120: the acceptance of a many-step operation touches no line, no `RESULT`, no `ARG`, no STATE register, none of `rxb`, `k`, `i`, `n`, no frame
byte, and emits no event; `frame_valid` is changed by RUN_TRANSACTION only, `txb` by EXCHANGE_BYTE only. -/
def Obligations.FrameOfTheManyStepOperations : Prop :=
  ∀ i ∈ [Instr.exchangeByte, .runTransaction], ∀ s t : State, exec i s = .next t →
    linesOf t = linesOf s ∧ operandsOf t = operandsOf s ∧ padOf t = padOf s ∧ SameOutside s t ∧ t.freeCtr = s.freeCtr ∧ t.rxb = s.rxb ∧
    t.frame = s.frame ∧ t.k = s.k ∧ t.i = s.i ∧ t.n = s.n ∧ (i = .exchangeByte → t.frameValid = s.frameValid) ∧
    (i = .runTransaction → t.txb = s.txb)

/-- R140: DECODE touches no line, no `ARG`, no `RESULT`, no position, no shift register, no frame byte and not `BUSY`, and emits no event. -/
def Obligations.FrameOfDecode : Prop :=
  ∀ s t : State, exec .decode s = .next t →
    linesOf t = linesOf s ∧ operandsOf t = operandsOf s ∧ shiftOf t = shiftOf s ∧ positionOf t = positionOf s ∧ t.frame = s.frame ∧
    t.busy = s.busy ∧ SameOutside s t

/-- R101, R122, R126: the rows of what is sent and received touch no STATE register, no `ARG`, no `RESULT`, no status flag, no select line and not `op_run` or
`frame_valid`; those that send leave the frame and `k`, those that receive leave the lines, the shift registers, `i`, `n` and the trace. -/
def Obligations.FrameOfTheWireRows : Prop :=
  ∀ (out v : Byte) (s t : State),
    (∀ i ∈ [Instr.wbyte out, .wcmdStart, .wcmdPoll, .wcmdPad, .txSeq0, .txSeq1, .txSeq2, .txSeq3, .txSeq4, .txSeq5, .txSeq6, .txSeq7, .txSeq8],
      exec i s = .next t →
        padOf t = padOf s ∧ operandsOf t = operandsOf s ∧ statusOf t = statusOf s ∧ t.sel = s.sel ∧ t.opRun = s.opRun ∧ frameOf t = frameOf s ∧
        t.k = s.k ∧ t.script = s.script ∧ t.rdData = s.rdData ∧ t.freeCtr = s.freeCtr) ∧
    (∀ i ∈ [Instr.fStart v, .fMode v, .fCheck v, .fBtnA v, .fBtnB v, .fRx v, .fRy v, .fLx v, .fLy v],
      exec i s = .next t →
        padOf t = padOf s ∧ operandsOf t = operandsOf s ∧ statusOf t = statusOf s ∧ linesOf t = linesOf s ∧ t.opRun = s.opRun ∧
        t.frameValid = s.frameValid ∧ shiftOf t = shiftOf s ∧ t.i = s.i ∧ t.n = s.n ∧ SameOutside s t ∧ t.freeCtr = s.freeCtr)

/-- R19, R63: no instruction writes `ARG`. -/
def Obligations.NoInstructionWritesArg : Prop :=
  ∀ (i : Instr) (s t : State), exec i s = .next t → t.arg = s.arg

/-- R52, R19: a running operation does not depend on `ARG`: with another `ARG`, and the same samples (log entry 3), the sequencer takes the same step. -/
def Obligations.RunningOperationIgnoresArg : Prop :=
  ∀ (s t : State) (a : Byte), seqStep s = .next t → seqStep { s with arg := a } = .next { t with arg := a }

/-! ## Whole operations -/

/-- R126: the step at every control point, with its action, its event and its successor. At X_LOAD and X_OK of a transaction `StepRunsTheRowOfTheByte`,
`SequenceBytesAreLoaded` and `ReceivedBytesAreStored` say the same of every `k`; the step at X_FAIL is `AckTimeoutEntry`. -/
def Obligations.EachControlPointTakesItsStep : Prop :=
  ∀ s : State,
    (s.ph = .idle → seqStep s = .next s) ∧
    (s.ph = .tCmdIdle → seqStep s = .next { s with cmd := true, trace := .write .cmd true :: s.trace, ph := .tClkIdle }) ∧
    (s.ph = .tClkIdle → seqStep s = .next { s with clk := true, trace := .write .clk true :: s.trace, ph := .tSelOn }) ∧
    (s.ph = .tSelOn → seqStep s = .next { s with sel := true, trace := .write .sel true :: s.trace, ph := .tSetup }) ∧
    (s.ph = .tSetup → seqStep s = .next { s with k := 0, trace := .delay 10 :: s.trace, ph := .xLoad }) ∧
    (s.ph = .xLoad → s.opRun = .xchg → seqStep s = .next { s with i := 0, n := 0, ph := .bPre }) ∧
    (s.ph = .xLoad → s.opRun = .txn → seqStep s = .next { s with txb := Config.txSeq s.k, i := 0, n := 0, ph := .bPre }) ∧
    (s.ph = .bPre → seqStep s = .next { s with trace := .delay 10 :: s.trace, ph := .bCmd }) ∧
    (s.ph = .bCmd → seqStep s = .next { s with
      cmd := s.txb.getLsbD s.i, trace := .write .cmd (s.txb.getLsbD s.i) :: s.trace, ph := .bClkLo }) ∧
    (s.ph = .bClkLo → seqStep s = .next { s with clk := false, trace := .write .clk false :: s.trace, ph := .bLow }) ∧
    (s.ph = .bLow → seqStep s = .next { s with trace := .delay 10 :: s.trace, ph := .bSample }) ∧
    (s.ph = .bSample → ∃ t, seqStep s = .next t ∧
      t = { s with rxb := t.rxb, datIn := s.datIn.tail, trace := .read .dat (datNow s) :: s.trace, ph := .bClkHi } ∧
      ∀ j : Fin 8, t.rxb.getLsbD j = if j = s.i then datNow s else s.rxb.getLsbD j) ∧
    (s.ph = .bClkHi → s.i = 7 → seqStep s = .next { s with clk := true, trace := .write .clk true :: s.trace, ph := .aPoll }) ∧
    (s.ph = .bClkHi → s.i ≠ 7 → seqStep s = .next { s with clk := true, i := s.i + 1, trace := .write .clk true :: s.trace, ph := .bPre }) ∧
    (s.ph = .aPoll → ackNow s = false → seqStep s = .next { s with
      n := s.n + 1, ackIn := s.ackIn.tail, trace := .read .ack false :: s.trace, ph := .xOk }) ∧
    (s.ph = .aPoll → ackNow s = true → seqStep s = .next { s with
      n := s.n + 1, ackIn := s.ackIn.tail, trace := .read .ack true :: s.trace, ph := .aWait }) ∧
    (s.ph = .aWait → s.n = 50 → seqStep s = .next { s with trace := .delay 5 :: s.trace, ph := .xFail }) ∧
    (s.ph = .aWait → s.n ≠ 50 → seqStep s = .next { s with trace := .delay 5 :: s.trace, ph := .aPoll }) ∧
    (s.ph = .xOk → s.opRun = .xchg → seqStep s = .next { s with
      result := s.rxb, resultKnown := true, busy := false, done := true, ph := .idle, opRun := .none }) ∧
    (s.ph = .xOk → s.opRun = .txn → s.k ≠ 8 → seqStep s = .next { s with
      frame := s.frame.set s.k s.rxb, k := s.k + 1, ph := .xLoad }) ∧
    (s.ph = .xOk → s.opRun = .txn → s.k = 8 → seqStep s = .next { s with frame := s.frame.set 8 s.rxb, ph := .tCmdEnd }) ∧
    (s.ph = .tCmdEnd → seqStep s = .next { s with cmd := true, trace := .write .cmd true :: s.trace, ph := .tSelOff }) ∧
    (s.ph = .tSelOff → seqStep s = .next { s with
      sel := false, trace := .write .sel false :: s.trace, frameValid := true, busy := false, done := true, ph := .idle, opRun := .none })

/-- R101, R126: from X_LOAD the sequencer, left alone, reaches within 149 steps the very state the procedure `exchange_byte` gives in whole. -/
def Obligations.SequencerRunsTheByteExchange : Prop :=
  ∀ s : State, s.script = [] → s.ph = .xLoad → s.opRun ≠ .none →
    ∃ m t, m ≤ 149 ∧ exec (.wbyte (if s.opRun = .txn then Config.txSeq s.k else s.txb)) s = .next t ∧ run m s = .next t

/-- R100: a stand-alone EXCHANGE_BYTE of `ARG` runs `exchange_byte(ARG)` and ends within 150 steps: with the byte in `RESULT`, or with the error,
`ERR_INDEX` 0 and `RESULT` unspecified. -/
def Obligations.ExchangeByteRunsToItsEnd : Prop :=
  ∀ s : State, s.script = [] → s.busy = false →
    ∃ t u m, exec .exchangeByte s = .next t ∧ exec (.wbyte s.arg) t = .next u ∧ m ≤ 150 ∧
      ((u.ph = .xOk ∧ run m t = .next { u with
          result := u.rxb, resultKnown := true, busy := false, done := true, ph := .idle, opRun := .none }) ∨
       (u.ph = .xFail ∧ run m t = .next { u with
          err := true, errIndex := 0#4, resultKnown := false, busy := false, done := true, ph := .idle, opRun := .none }))

/-- R120, R126, R129: RUN_TRANSACTION, left alone, reaches within 1347 steps the very state `run_transaction` gives in whole, and is idle there. -/
def Obligations.TransactionRunsToItsEnd : Prop :=
  ∀ s : State, s.script = [] → s.busy = false →
    ∃ t m, exec .runTransaction s = .next t ∧ m ≤ 1347 ∧ run m t = .next (runTransaction t) ∧ (runTransaction t).ph = .idle ∧
      (runTransaction t).busy = false ∧ (runTransaction t).done = true

/-- R125, R127, R128: a device that presents the nine bytes of `f` and holds `ACK` active for `p k` < 50 samples of exchange `k` gives the frame `f`, valid,
no error, the lines idle, the STATE registers and `RESULT` as they were, in 10 + sum of (160 + 5 `p k`) time units. -/
def Obligations.TransactionReceivesTheFrame : Prop :=
  ∀ (s : State) (f : Vector Byte 9) (p : Fin 9 → Nat) (ds as : List Bool), s.script = [] → s.busy = false → (∀ k, p k < 50) →
    s.datIn = frameSamples f (List.finRange 9) ++ ds → s.ackIn = pollSamples p (List.finRange 9) ++ as →
    ∃ t u m, exec .runTransaction s = .next t ∧ m ≤ 1347 ∧ run m t = .next u ∧ u.frame = f ∧ u.frameValid = true ∧
      u.busy = false ∧ u.done = true ∧ u.err = false ∧ u.errIndex = 0#4 ∧ linesOf u = (true, true, false) ∧
      operandsOf u = operandsOf s ∧ padOf u = padOf s ∧ u.datIn = ds ∧ u.ackIn = as ∧
      elapsed u.trace = elapsed s.trace + 10 + ((List.finRange 9).map fun k => 160 + 5 * p k).sum

/-- R124, R125, R127: when exchanges 0 to `e` - 1 succeed and the 50 samples of exchange `e` read active, the transaction ends with the error and index `e`, no valid
frame, the lines left (clock high, command at bit 7 of the byte being sent, select active), the STATE registers and `RESULT` untouched, and no
sample of a later exchange taken. -/
def Obligations.TransactionFailsAtItsExchange : Prop :=
  ∀ (s : State) (f : Vector Byte 9) (p : Fin 9 → Nat) (e : Fin 9) (ds as : List Bool), s.script = [] → s.busy = false →
    (∀ k, k < e → p k < 50) →
    s.datIn = frameSamples f ((List.finRange 9).take (e.val + 1)) ++ ds →
    s.ackIn = pollSamples p ((List.finRange 9).take e.val) ++ List.replicate 50 true ++ as →
    ∃ t u m, exec .runTransaction s = .next t ∧ m ≤ 1347 ∧ run m t = .next u ∧ u.busy = false ∧ u.done = true ∧ u.err = true ∧
      u.errIndex = BitVec.ofNat 4 e.val ∧ u.frameValid = false ∧
      linesOf u = (true, (Config.txSeq e).getLsbD 7, true) ∧ operandsOf u = operandsOf s ∧ padOf u = padOf s ∧ u.datIn = ds ∧
      u.ackIn = as

/-- R78, R165, R140 (the turns of host and sequencer are the model's choice, log entry 6): a POLL cycle begun while `BUSY` = 0 ends within 1351 steps, idle and with the script run out: without error the STATE registers hold the decoded frame,
which is consumed; with the error they are as they were and there is no frame. -/
def Obligations.PollEndsDecodedOrUnchanged : Prop :=
  ∀ s : State, s.script = [.poll] → s.busy = false →
    ∃ m t, m ≤ 1351 ∧ run m s = .next t ∧ t.script = [] ∧ t.busy = false ∧ t.done = true ∧ t.refused = false ∧ t.frameValid = false ∧
      ((t.err = false ∧ t.stateValid = true ∧ t.btnA = ~~~(t.frame.get 3) ∧ t.btnB = ~~~(t.frame.get 4) ∧
          (t.analog = false ↔ t.frame.get 1 = Config.digitalModeSentinel) ∧
          (t.analog = true → t.lx = t.frame.get 7 ∧ t.ly = t.frame.get 8 ∧ t.rx = t.frame.get 5 ∧ t.ry = t.frame.get 6)) ∨
       (t.err = true ∧ padOf t = padOf s))

/-- R173, R129: from every state that meets the invariants the sequencer, left alone, is idle within 1347 steps. -/
def Obligations.EveryOperationEnds : Prop :=
  ∀ s : State, Inv s → s.script = [] → ∃ m t, m ≤ 1347 ∧ run m s = .next t ∧ t.ph = .idle ∧ t.busy = false

/-! ## The error -/

/-- R165, R162: what the step at X_FAIL changes, and (the whole state being given) that it changes nothing else; that the stored `RESULT` is marked as without
a value after a stand-alone exchange is log entry 7. -/
def Obligations.AckTimeoutEntry : Prop :=
  ∀ s : State, s.ph = .xFail →
    (s.opRun = .txn → seqStep s = .next { s with
      err := true, errIndex := BitVec.ofNat 4 s.k.val, busy := false, done := true, ph := .idle, opRun := .none }) ∧
    (s.opRun = .xchg → seqStep s = .next { s with
      err := true, errIndex := 0#4, busy := false, done := true, ph := .idle, opRun := .none, resultKnown := false })

/-- R160: `ERR` becomes 1 in no step but the sequencer's at X_FAIL, reached only after exactly 50 consecutive samples of `ACK` that read
active: they, each with its delay, are the newest 100 events of the trace. -/
def Obligations.OnlyFiftyActivePollsRaiseTheError : Prop :=
  ∀ s t : State, Inv s → PollsTraced s → step s = .next t → s.err = false → t.err = true →
    s.ph = .xFail ∧ s.n = 50 ∧ s.busy = true ∧ ∃ older, s.trace = (activePolls 50).reverse ++ older

/-- R101, R103: the invariant the statement before rests on: in an acknowledgement wait the newest events of the trace are the `n` samples
taken, all active, each with its delay. It holds right after reset, and every step from a state that meets the invariants keeps it. -/
def Obligations.StepKeepsThePollTrace : Prop :=
  PollsTraced State.reset ∧ ∀ s t : State, Inv s → PollsTraced s → step s = .next t → PollsTraced t

/-- R173, R170: in a state that meets the invariants every step goes on, unless the host's next access is wider than one byte. -/
def Obligations.NoFatalPath : Prop :=
  ∀ s : State, Inv s → (∀ a n rest, s.script ≠ .wide a n :: rest) → ∃ t, step s = .next t

/-- 93 U9: an access wider than one byte is outside the spec, and the machine says so by name. -/
def Obligations.WideAccessIsOutside : Prop :=
  ∀ (s : State) (a : RegNo) (n : Nat) (rest : List HostLine), s.script = .wide a n :: rest → step s = .refused .wideHostAccess

/-! ## Invariants and whole-machine rules -/

/-- R30, R20, R15, with R30 (2) in the form of log entry 9, hold right after reset. -/
def Obligations.ResetMeetsTheInvariants : Prop :=
  Inv State.reset

/-- R30, R20, R15, with R30 (2) in the form of log entry 9: every step from a state that meets the invariants leads to one that does. -/
def Obligations.StepKeepsTheInvariants : Prop :=
  ∀ s t : State, Inv s → step s = .next t → Inv t

/-- R30 (7): the STATE registers change in no step but one that runs an accepted DECODE, or reset. -/
def Obligations.StateRegistersChangeOnlyInDecode : Prop :=
  ∀ s t : State, step s = .next t → padOf t ≠ padOf s →
    (∃ rest, s.script = .reset :: rest) ∨
    (s.busy = false ∧ s.frameValid = true ∧
      ∃ rest, s.script = .wr 0x00#5 0x07#8 :: rest ∨ (s.script = .wrIfOk 0x00#5 0x07#8 :: rest ∧ s.err = false))

/-- R14: `frame_valid` becomes 1 only in the last step of a transaction, and becomes 0 only when a host line that writes RUN_TRANSACTION
is accepted, when one that writes DECODE completes, or at reset. -/
def Obligations.FrameValidHasOneSource : Prop :=
  ∀ s t : State, Inv s → step s = .next t →
    (s.frameValid = false → t.frameValid = true → s.opRun = .txn ∧ s.ph = .tSelOff ∧ t.busy = false ∧ t.done = true) ∧
    (s.frameValid = true → t.frameValid = false →
      (∃ rest, s.script = .reset :: rest) ∨
      (s.busy = false ∧ t.busy = true ∧ t.opRun = .txn ∧
        ∃ rest, s.script = .wr 0x00#5 0x06#8 :: rest ∨ (s.script = .wrIfOk 0x00#5 0x06#8 :: rest ∧ s.err = false)) ∨
      (s.busy = false ∧ t.busy = false ∧ t.done = true ∧ t.stateValid = true ∧
        ∃ rest, s.script = .wr 0x00#5 0x07#8 :: rest ∨ (s.script = .wrIfOk 0x00#5 0x07#8 :: rest ∧ s.err = false)))

/-- R11, R42: a latch changes in no step but one whose one event is a write of the new value to its line, or reset (no event, log entry 16). -/
def Obligations.LatchesChangeOnlyByLineWrites : Prop :=
  ∀ s t : State, step s = .next t → (∀ rest, s.script ≠ .reset :: rest) →
    (t.clk ≠ s.clk → t.trace = .write .clk t.clk :: s.trace) ∧
    (t.cmd ≠ s.cmd → t.trace = .write .cmd t.cmd :: s.trace) ∧
    (t.sel ≠ s.sel → t.trace = .write .sel t.sel :: s.trace)

/-- R41, R126 (R8's trace): every step adds at most one event and never takes one away. -/
def Obligations.EachStepEmitsAtMostOneEvent : Prop :=
  ∀ s t : State, step s = .next t → t.trace = s.trace ∨ ∃ e, t.trace = e :: s.trace

/-! ## The host registers and reset -/

/-- R41: a host read returns the register's value wherever the spec gives one, and changes none of the SSPC's state and nothing on the wire. -/
def Obligations.HostReadsChangeNothing : Prop :=
  ∀ (s : State) (a : RegNo) (rest : List HostLine), s.script = .rd a :: rest →
    ∃ t, step s = .next t ∧ SameSspc s t ∧ t.script = rest ∧ t.trace = s.trace ∧ t.datIn = s.datIn ∧ t.ackIn = s.ackIn ∧
      ∀ v, regValue a s = some v → t.rdData = v

/-- R41, R19, R27: a host write to ARG sets it, and a write to any register other than CMD and ARG is ignored, whatever is running. -/
def Obligations.HostWritesOutsideCmd : Prop :=
  ∀ (s : State) (a : RegNo) (v : Byte) (rest : List HostLine), s.script = .wr a v :: rest →
    (a = 0x01#5 → step s = .next { s with script := rest, arg := v }) ∧
    (a ≠ 0x00#5 → a ≠ 0x01#5 → step s = .next { s with script := rest })

/-- R18 to R26: the value of every implemented register where it has one, with the fields of STATUS and SFLAGS bit by bit. -/
def Obligations.RegistersReadTheirValue : Prop :=
  ∀ s : State,
    regValue 0x00#5 s = some 0x00#8 ∧ regValue 0x01#5 s = some s.arg ∧
    (∃ v, regValue 0x02#5 s = some v ∧ v.getLsbD 0 = s.busy ∧ v.getLsbD 1 = s.done ∧ v.getLsbD 2 = s.err ∧ v.getLsbD 3 = s.refused ∧
      v.extractLsb' 4 4 = s.errIndex) ∧
    (s.resultKnown = true → s.busy = false → regValue 0x03#5 s = some s.result) ∧
    (s.frameValid = true → s.busy = false → ∀ k : Fin 9, regValue (BitVec.ofNat 5 (4 + k.val)) s = some (s.frame.get k)) ∧
    (s.stateValid = true → regValue 0x0D#5 s = some s.btnA ∧ regValue 0x0E#5 s = some s.btnB) ∧
    (s.analog = true → regValue 0x0F#5 s = some s.lx ∧ regValue 0x10#5 s = some s.ly ∧ regValue 0x11#5 s = some s.rx ∧
      regValue 0x12#5 s = some s.ry) ∧
    (∃ v, regValue 0x13#5 s = some v ∧ v.getLsbD 0 = s.stateValid ∧ v.getLsbD 1 = s.analog ∧ v.extractLsb' 2 6 = 0#6)

/-- R14, R21, R25, R27, R54, R194: the reads that have no value the spec gives. -/
def Obligations.UnspecifiedReadsHaveNoValue : Prop :=
  ∀ s : State,
    ((s.resultKnown = false ∨ s.busy = true) → regValue 0x03#5 s = none) ∧
    ((s.frameValid = false ∨ s.busy = true) → ∀ k : Fin 9, regValue (BitVec.ofNat 5 (4 + k.val)) s = none) ∧
    (s.stateValid = false → regValue 0x0D#5 s = none ∧ regValue 0x0E#5 s = none) ∧
    (s.analog = false → regValue 0x0F#5 s = none ∧ regValue 0x10#5 s = none ∧ regValue 0x11#5 s = none ∧ regValue 0x12#5 s = none) ∧
    (∀ a : RegNo, 0x14 ≤ a.toNat → regValue a s = none)

/-- R31: the reset state, with no value for the registers R31 leaves unspecified. -/
def Obligations.ResetLeavesTheTable : Prop :=
  linesOf State.reset = (true, true, false) ∧ State.reset.arg = 0x00#8 ∧ State.reset.frameValid = false ∧
  positionOf State.reset = (.none, .idle, 0, 0, 0) ∧ statusOf State.reset = (false, false, false, false, 0#4) ∧
  State.reset.stateValid = false ∧ State.reset.analog = false ∧ regValue 0x02#5 State.reset = some 0x00#8 ∧
  regValue 0x13#5 State.reset = some 0x00#8 ∧ (∀ a : RegNo, 3 ≤ a.toNat → a.toNat ≤ 0x12 → regValue a State.reset = none)

/-- R180, R181: the reset input, at any time and in any state, gives every piece of SSPC state its reset value (for the registers R31 leaves
unspecified, those of log entry 5, which no host read returns). That it leaves the outside as it is (no event in the trace; the lines and
samples still to come and the last read kept) is log entry 16, read from R8 by inference. -/
def Obligations.ResetInputFromAnyState : Prop :=
  ∀ (s : State) (rest : List HostLine), s.script = .reset :: rest →
    ∃ t, step s = .next t ∧ SameSspc State.reset t ∧ SameOutside { s with script := rest } t
end

