-- ==== Sys2Proof/Laws/State.lean ====
section
/-! SUPPORT. One lemma per field for the record updates of the shared operations, true by `rfl`, so that no later proof unfolds an
update; and the same for the three line writes. -/

namespace Sys2Proof.Machine

/-! accept (R17) -/

@[simp] theorem accept_clk (s : State) : (accept s).clk = s.clk := rfl
@[simp] theorem accept_cmd (s : State) : (accept s).cmd = s.cmd := rfl
@[simp] theorem accept_sel (s : State) : (accept s).sel = s.sel := rfl
@[simp] theorem accept_arg (s : State) : (accept s).arg = s.arg := rfl
@[simp] theorem accept_result (s : State) : (accept s).result = s.result := rfl
@[simp] theorem accept_frame (s : State) : (accept s).frame = s.frame := rfl
@[simp] theorem accept_frameValid (s : State) : (accept s).frameValid = s.frameValid := rfl
@[simp] theorem accept_txb (s : State) : (accept s).txb = s.txb := rfl
@[simp] theorem accept_rxb (s : State) : (accept s).rxb = s.rxb := rfl
@[simp] theorem accept_opRun (s : State) : (accept s).opRun = s.opRun := rfl
@[simp] theorem accept_ph (s : State) : (accept s).ph = s.ph := rfl
@[simp] theorem accept_k (s : State) : (accept s).k = s.k := rfl
@[simp] theorem accept_i (s : State) : (accept s).i = s.i := rfl
@[simp] theorem accept_n (s : State) : (accept s).n = s.n := rfl
@[simp] theorem accept_busy (s : State) : (accept s).busy = s.busy := rfl
@[simp] theorem accept_done (s : State) : (accept s).done = false := rfl
@[simp] theorem accept_err (s : State) : (accept s).err = false := rfl
@[simp] theorem accept_refused (s : State) : (accept s).refused = false := rfl
@[simp] theorem accept_errIndex (s : State) : (accept s).errIndex = 0#4 := rfl
@[simp] theorem accept_btnA (s : State) : (accept s).btnA = s.btnA := rfl
@[simp] theorem accept_btnB (s : State) : (accept s).btnB = s.btnB := rfl
@[simp] theorem accept_lx (s : State) : (accept s).lx = s.lx := rfl
@[simp] theorem accept_ly (s : State) : (accept s).ly = s.ly := rfl
@[simp] theorem accept_rx (s : State) : (accept s).rx = s.rx := rfl
@[simp] theorem accept_ry (s : State) : (accept s).ry = s.ry := rfl
@[simp] theorem accept_analog (s : State) : (accept s).analog = s.analog := rfl
@[simp] theorem accept_stateValid (s : State) : (accept s).stateValid = s.stateValid := rfl
@[simp] theorem accept_resultKnown (s : State) : (accept s).resultKnown = s.resultKnown := rfl
@[simp] theorem accept_script (s : State) : (accept s).script = s.script := rfl
@[simp] theorem accept_datIn (s : State) : (accept s).datIn = s.datIn := rfl
@[simp] theorem accept_ackIn (s : State) : (accept s).ackIn = s.ackIn := rfl
@[simp] theorem accept_trace (s : State) : (accept s).trace = s.trace := rfl
@[simp] theorem accept_rdData (s : State) : (accept s).rdData = s.rdData := rfl
@[simp] theorem accept_freeCtr (s : State) : (accept s).freeCtr = s.freeCtr := rfl

/-! refuse (R161) -/

@[simp] theorem refuse_clk (s : State) : (refuse s).clk = s.clk := rfl
@[simp] theorem refuse_cmd (s : State) : (refuse s).cmd = s.cmd := rfl
@[simp] theorem refuse_sel (s : State) : (refuse s).sel = s.sel := rfl
@[simp] theorem refuse_arg (s : State) : (refuse s).arg = s.arg := rfl
@[simp] theorem refuse_result (s : State) : (refuse s).result = s.result := rfl
@[simp] theorem refuse_frame (s : State) : (refuse s).frame = s.frame := rfl
@[simp] theorem refuse_frameValid (s : State) : (refuse s).frameValid = s.frameValid := rfl
@[simp] theorem refuse_txb (s : State) : (refuse s).txb = s.txb := rfl
@[simp] theorem refuse_rxb (s : State) : (refuse s).rxb = s.rxb := rfl
@[simp] theorem refuse_opRun (s : State) : (refuse s).opRun = s.opRun := rfl
@[simp] theorem refuse_ph (s : State) : (refuse s).ph = s.ph := rfl
@[simp] theorem refuse_k (s : State) : (refuse s).k = s.k := rfl
@[simp] theorem refuse_i (s : State) : (refuse s).i = s.i := rfl
@[simp] theorem refuse_n (s : State) : (refuse s).n = s.n := rfl
@[simp] theorem refuse_busy (s : State) : (refuse s).busy = s.busy := rfl
@[simp] theorem refuse_done (s : State) : (refuse s).done = s.done := rfl
@[simp] theorem refuse_err (s : State) : (refuse s).err = s.err := rfl
@[simp] theorem refuse_refused (s : State) : (refuse s).refused = true := rfl
@[simp] theorem refuse_errIndex (s : State) : (refuse s).errIndex = s.errIndex := rfl
@[simp] theorem refuse_btnA (s : State) : (refuse s).btnA = s.btnA := rfl
@[simp] theorem refuse_btnB (s : State) : (refuse s).btnB = s.btnB := rfl
@[simp] theorem refuse_lx (s : State) : (refuse s).lx = s.lx := rfl
@[simp] theorem refuse_ly (s : State) : (refuse s).ly = s.ly := rfl
@[simp] theorem refuse_rx (s : State) : (refuse s).rx = s.rx := rfl
@[simp] theorem refuse_ry (s : State) : (refuse s).ry = s.ry := rfl
@[simp] theorem refuse_analog (s : State) : (refuse s).analog = s.analog := rfl
@[simp] theorem refuse_stateValid (s : State) : (refuse s).stateValid = s.stateValid := rfl
@[simp] theorem refuse_resultKnown (s : State) : (refuse s).resultKnown = s.resultKnown := rfl
@[simp] theorem refuse_script (s : State) : (refuse s).script = s.script := rfl
@[simp] theorem refuse_datIn (s : State) : (refuse s).datIn = s.datIn := rfl
@[simp] theorem refuse_ackIn (s : State) : (refuse s).ackIn = s.ackIn := rfl
@[simp] theorem refuse_trace (s : State) : (refuse s).trace = s.trace := rfl
@[simp] theorem refuse_rdData (s : State) : (refuse s).rdData = s.rdData := rfl
@[simp] theorem refuse_freeCtr (s : State) : (refuse s).freeCtr = s.freeCtr := rfl

/-! finish (R62) -/

@[simp] theorem finish_clk (s : State) : (finish s).clk = s.clk := rfl
@[simp] theorem finish_cmd (s : State) : (finish s).cmd = s.cmd := rfl
@[simp] theorem finish_sel (s : State) : (finish s).sel = s.sel := rfl
@[simp] theorem finish_arg (s : State) : (finish s).arg = s.arg := rfl
@[simp] theorem finish_result (s : State) : (finish s).result = s.result := rfl
@[simp] theorem finish_frame (s : State) : (finish s).frame = s.frame := rfl
@[simp] theorem finish_frameValid (s : State) : (finish s).frameValid = s.frameValid := rfl
@[simp] theorem finish_txb (s : State) : (finish s).txb = s.txb := rfl
@[simp] theorem finish_rxb (s : State) : (finish s).rxb = s.rxb := rfl
@[simp] theorem finish_opRun (s : State) : (finish s).opRun = s.opRun := rfl
@[simp] theorem finish_ph (s : State) : (finish s).ph = s.ph := rfl
@[simp] theorem finish_k (s : State) : (finish s).k = s.k := rfl
@[simp] theorem finish_i (s : State) : (finish s).i = s.i := rfl
@[simp] theorem finish_n (s : State) : (finish s).n = s.n := rfl
@[simp] theorem finish_busy (s : State) : (finish s).busy = s.busy := rfl
@[simp] theorem finish_done (s : State) : (finish s).done = true := rfl
@[simp] theorem finish_err (s : State) : (finish s).err = s.err := rfl
@[simp] theorem finish_refused (s : State) : (finish s).refused = s.refused := rfl
@[simp] theorem finish_errIndex (s : State) : (finish s).errIndex = s.errIndex := rfl
@[simp] theorem finish_btnA (s : State) : (finish s).btnA = s.btnA := rfl
@[simp] theorem finish_btnB (s : State) : (finish s).btnB = s.btnB := rfl
@[simp] theorem finish_lx (s : State) : (finish s).lx = s.lx := rfl
@[simp] theorem finish_ly (s : State) : (finish s).ly = s.ly := rfl
@[simp] theorem finish_rx (s : State) : (finish s).rx = s.rx := rfl
@[simp] theorem finish_ry (s : State) : (finish s).ry = s.ry := rfl
@[simp] theorem finish_analog (s : State) : (finish s).analog = s.analog := rfl
@[simp] theorem finish_stateValid (s : State) : (finish s).stateValid = s.stateValid := rfl
@[simp] theorem finish_resultKnown (s : State) : (finish s).resultKnown = s.resultKnown := rfl
@[simp] theorem finish_script (s : State) : (finish s).script = s.script := rfl
@[simp] theorem finish_datIn (s : State) : (finish s).datIn = s.datIn := rfl
@[simp] theorem finish_ackIn (s : State) : (finish s).ackIn = s.ackIn := rfl
@[simp] theorem finish_trace (s : State) : (finish s).trace = s.trace := rfl
@[simp] theorem finish_rdData (s : State) : (finish s).rdData = s.rdData := rfl
@[simp] theorem finish_freeCtr (s : State) : (finish s).freeCtr = s.freeCtr := rfl

/-! complete (R8) -/

@[simp] theorem complete_clk (s : State) : (complete s).clk = s.clk := rfl
@[simp] theorem complete_cmd (s : State) : (complete s).cmd = s.cmd := rfl
@[simp] theorem complete_sel (s : State) : (complete s).sel = s.sel := rfl
@[simp] theorem complete_arg (s : State) : (complete s).arg = s.arg := rfl
@[simp] theorem complete_result (s : State) : (complete s).result = s.result := rfl
@[simp] theorem complete_frame (s : State) : (complete s).frame = s.frame := rfl
@[simp] theorem complete_frameValid (s : State) : (complete s).frameValid = s.frameValid := rfl
@[simp] theorem complete_txb (s : State) : (complete s).txb = s.txb := rfl
@[simp] theorem complete_rxb (s : State) : (complete s).rxb = s.rxb := rfl
@[simp] theorem complete_opRun (s : State) : (complete s).opRun = .none := rfl
@[simp] theorem complete_ph (s : State) : (complete s).ph = .idle := rfl
@[simp] theorem complete_k (s : State) : (complete s).k = s.k := rfl
@[simp] theorem complete_i (s : State) : (complete s).i = s.i := rfl
@[simp] theorem complete_n (s : State) : (complete s).n = s.n := rfl
@[simp] theorem complete_busy (s : State) : (complete s).busy = false := rfl
@[simp] theorem complete_done (s : State) : (complete s).done = true := rfl
@[simp] theorem complete_err (s : State) : (complete s).err = s.err := rfl
@[simp] theorem complete_refused (s : State) : (complete s).refused = s.refused := rfl
@[simp] theorem complete_errIndex (s : State) : (complete s).errIndex = s.errIndex := rfl
@[simp] theorem complete_btnA (s : State) : (complete s).btnA = s.btnA := rfl
@[simp] theorem complete_btnB (s : State) : (complete s).btnB = s.btnB := rfl
@[simp] theorem complete_lx (s : State) : (complete s).lx = s.lx := rfl
@[simp] theorem complete_ly (s : State) : (complete s).ly = s.ly := rfl
@[simp] theorem complete_rx (s : State) : (complete s).rx = s.rx := rfl
@[simp] theorem complete_ry (s : State) : (complete s).ry = s.ry := rfl
@[simp] theorem complete_analog (s : State) : (complete s).analog = s.analog := rfl
@[simp] theorem complete_stateValid (s : State) : (complete s).stateValid = s.stateValid := rfl
@[simp] theorem complete_resultKnown (s : State) : (complete s).resultKnown = s.resultKnown := rfl
@[simp] theorem complete_script (s : State) : (complete s).script = s.script := rfl
@[simp] theorem complete_datIn (s : State) : (complete s).datIn = s.datIn := rfl
@[simp] theorem complete_ackIn (s : State) : (complete s).ackIn = s.ackIn := rfl
@[simp] theorem complete_trace (s : State) : (complete s).trace = s.trace := rfl
@[simp] theorem complete_rdData (s : State) : (complete s).rdData = s.rdData := rfl
@[simp] theorem complete_freeCtr (s : State) : (complete s).freeCtr = s.freeCtr := rfl

/-! setResult (R21) -/

@[simp] theorem setResult_clk (v : Byte) (s : State) : (setResult v s).clk = s.clk := rfl
@[simp] theorem setResult_cmd (v : Byte) (s : State) : (setResult v s).cmd = s.cmd := rfl
@[simp] theorem setResult_sel (v : Byte) (s : State) : (setResult v s).sel = s.sel := rfl
@[simp] theorem setResult_arg (v : Byte) (s : State) : (setResult v s).arg = s.arg := rfl
@[simp] theorem setResult_result (v : Byte) (s : State) : (setResult v s).result = v := rfl
@[simp] theorem setResult_frame (v : Byte) (s : State) : (setResult v s).frame = s.frame := rfl
@[simp] theorem setResult_frameValid (v : Byte) (s : State) : (setResult v s).frameValid = s.frameValid := rfl
@[simp] theorem setResult_txb (v : Byte) (s : State) : (setResult v s).txb = s.txb := rfl
@[simp] theorem setResult_rxb (v : Byte) (s : State) : (setResult v s).rxb = s.rxb := rfl
@[simp] theorem setResult_opRun (v : Byte) (s : State) : (setResult v s).opRun = s.opRun := rfl
@[simp] theorem setResult_ph (v : Byte) (s : State) : (setResult v s).ph = s.ph := rfl
@[simp] theorem setResult_k (v : Byte) (s : State) : (setResult v s).k = s.k := rfl
@[simp] theorem setResult_i (v : Byte) (s : State) : (setResult v s).i = s.i := rfl
@[simp] theorem setResult_n (v : Byte) (s : State) : (setResult v s).n = s.n := rfl
@[simp] theorem setResult_busy (v : Byte) (s : State) : (setResult v s).busy = s.busy := rfl
@[simp] theorem setResult_done (v : Byte) (s : State) : (setResult v s).done = s.done := rfl
@[simp] theorem setResult_err (v : Byte) (s : State) : (setResult v s).err = s.err := rfl
@[simp] theorem setResult_refused (v : Byte) (s : State) : (setResult v s).refused = s.refused := rfl
@[simp] theorem setResult_errIndex (v : Byte) (s : State) : (setResult v s).errIndex = s.errIndex := rfl
@[simp] theorem setResult_btnA (v : Byte) (s : State) : (setResult v s).btnA = s.btnA := rfl
@[simp] theorem setResult_btnB (v : Byte) (s : State) : (setResult v s).btnB = s.btnB := rfl
@[simp] theorem setResult_lx (v : Byte) (s : State) : (setResult v s).lx = s.lx := rfl
@[simp] theorem setResult_ly (v : Byte) (s : State) : (setResult v s).ly = s.ly := rfl
@[simp] theorem setResult_rx (v : Byte) (s : State) : (setResult v s).rx = s.rx := rfl
@[simp] theorem setResult_ry (v : Byte) (s : State) : (setResult v s).ry = s.ry := rfl
@[simp] theorem setResult_analog (v : Byte) (s : State) : (setResult v s).analog = s.analog := rfl
@[simp] theorem setResult_stateValid (v : Byte) (s : State) : (setResult v s).stateValid = s.stateValid := rfl
@[simp] theorem setResult_resultKnown (v : Byte) (s : State) : (setResult v s).resultKnown = true := rfl
@[simp] theorem setResult_script (v : Byte) (s : State) : (setResult v s).script = s.script := rfl
@[simp] theorem setResult_datIn (v : Byte) (s : State) : (setResult v s).datIn = s.datIn := rfl
@[simp] theorem setResult_ackIn (v : Byte) (s : State) : (setResult v s).ackIn = s.ackIn := rfl
@[simp] theorem setResult_trace (v : Byte) (s : State) : (setResult v s).trace = s.trace := rfl
@[simp] theorem setResult_rdData (v : Byte) (s : State) : (setResult v s).rdData = s.rdData := rfl
@[simp] theorem setResult_freeCtr (v : Byte) (s : State) : (setResult v s).freeCtr = s.freeCtr := rfl

/-! emit (R8) -/

@[simp] theorem emit_clk (e : Event) (s : State) : (emit e s).clk = s.clk := rfl
@[simp] theorem emit_cmd (e : Event) (s : State) : (emit e s).cmd = s.cmd := rfl
@[simp] theorem emit_sel (e : Event) (s : State) : (emit e s).sel = s.sel := rfl
@[simp] theorem emit_arg (e : Event) (s : State) : (emit e s).arg = s.arg := rfl
@[simp] theorem emit_result (e : Event) (s : State) : (emit e s).result = s.result := rfl
@[simp] theorem emit_frame (e : Event) (s : State) : (emit e s).frame = s.frame := rfl
@[simp] theorem emit_frameValid (e : Event) (s : State) : (emit e s).frameValid = s.frameValid := rfl
@[simp] theorem emit_txb (e : Event) (s : State) : (emit e s).txb = s.txb := rfl
@[simp] theorem emit_rxb (e : Event) (s : State) : (emit e s).rxb = s.rxb := rfl
@[simp] theorem emit_opRun (e : Event) (s : State) : (emit e s).opRun = s.opRun := rfl
@[simp] theorem emit_ph (e : Event) (s : State) : (emit e s).ph = s.ph := rfl
@[simp] theorem emit_k (e : Event) (s : State) : (emit e s).k = s.k := rfl
@[simp] theorem emit_i (e : Event) (s : State) : (emit e s).i = s.i := rfl
@[simp] theorem emit_n (e : Event) (s : State) : (emit e s).n = s.n := rfl
@[simp] theorem emit_busy (e : Event) (s : State) : (emit e s).busy = s.busy := rfl
@[simp] theorem emit_done (e : Event) (s : State) : (emit e s).done = s.done := rfl
@[simp] theorem emit_err (e : Event) (s : State) : (emit e s).err = s.err := rfl
@[simp] theorem emit_refused (e : Event) (s : State) : (emit e s).refused = s.refused := rfl
@[simp] theorem emit_errIndex (e : Event) (s : State) : (emit e s).errIndex = s.errIndex := rfl
@[simp] theorem emit_btnA (e : Event) (s : State) : (emit e s).btnA = s.btnA := rfl
@[simp] theorem emit_btnB (e : Event) (s : State) : (emit e s).btnB = s.btnB := rfl
@[simp] theorem emit_lx (e : Event) (s : State) : (emit e s).lx = s.lx := rfl
@[simp] theorem emit_ly (e : Event) (s : State) : (emit e s).ly = s.ly := rfl
@[simp] theorem emit_rx (e : Event) (s : State) : (emit e s).rx = s.rx := rfl
@[simp] theorem emit_ry (e : Event) (s : State) : (emit e s).ry = s.ry := rfl
@[simp] theorem emit_analog (e : Event) (s : State) : (emit e s).analog = s.analog := rfl
@[simp] theorem emit_stateValid (e : Event) (s : State) : (emit e s).stateValid = s.stateValid := rfl
@[simp] theorem emit_resultKnown (e : Event) (s : State) : (emit e s).resultKnown = s.resultKnown := rfl
@[simp] theorem emit_script (e : Event) (s : State) : (emit e s).script = s.script := rfl
@[simp] theorem emit_datIn (e : Event) (s : State) : (emit e s).datIn = s.datIn := rfl
@[simp] theorem emit_ackIn (e : Event) (s : State) : (emit e s).ackIn = s.ackIn := rfl
@[simp] theorem emit_trace (e : Event) (s : State) : (emit e s).trace = e :: s.trace := rfl
@[simp] theorem emit_rdData (e : Event) (s : State) : (emit e s).rdData = s.rdData := rfl
@[simp] theorem emit_freeCtr (e : Event) (s : State) : (emit e s).freeCtr = s.freeCtr := rfl

/-! delay (R96) -/

@[simp] theorem delay_clk (d : Nat) (s : State) : (delay d s).clk = s.clk := rfl
@[simp] theorem delay_cmd (d : Nat) (s : State) : (delay d s).cmd = s.cmd := rfl
@[simp] theorem delay_sel (d : Nat) (s : State) : (delay d s).sel = s.sel := rfl
@[simp] theorem delay_arg (d : Nat) (s : State) : (delay d s).arg = s.arg := rfl
@[simp] theorem delay_result (d : Nat) (s : State) : (delay d s).result = s.result := rfl
@[simp] theorem delay_frame (d : Nat) (s : State) : (delay d s).frame = s.frame := rfl
@[simp] theorem delay_frameValid (d : Nat) (s : State) : (delay d s).frameValid = s.frameValid := rfl
@[simp] theorem delay_txb (d : Nat) (s : State) : (delay d s).txb = s.txb := rfl
@[simp] theorem delay_rxb (d : Nat) (s : State) : (delay d s).rxb = s.rxb := rfl
@[simp] theorem delay_opRun (d : Nat) (s : State) : (delay d s).opRun = s.opRun := rfl
@[simp] theorem delay_ph (d : Nat) (s : State) : (delay d s).ph = s.ph := rfl
@[simp] theorem delay_k (d : Nat) (s : State) : (delay d s).k = s.k := rfl
@[simp] theorem delay_i (d : Nat) (s : State) : (delay d s).i = s.i := rfl
@[simp] theorem delay_n (d : Nat) (s : State) : (delay d s).n = s.n := rfl
@[simp] theorem delay_busy (d : Nat) (s : State) : (delay d s).busy = s.busy := rfl
@[simp] theorem delay_done (d : Nat) (s : State) : (delay d s).done = s.done := rfl
@[simp] theorem delay_err (d : Nat) (s : State) : (delay d s).err = s.err := rfl
@[simp] theorem delay_refused (d : Nat) (s : State) : (delay d s).refused = s.refused := rfl
@[simp] theorem delay_errIndex (d : Nat) (s : State) : (delay d s).errIndex = s.errIndex := rfl
@[simp] theorem delay_btnA (d : Nat) (s : State) : (delay d s).btnA = s.btnA := rfl
@[simp] theorem delay_btnB (d : Nat) (s : State) : (delay d s).btnB = s.btnB := rfl
@[simp] theorem delay_lx (d : Nat) (s : State) : (delay d s).lx = s.lx := rfl
@[simp] theorem delay_ly (d : Nat) (s : State) : (delay d s).ly = s.ly := rfl
@[simp] theorem delay_rx (d : Nat) (s : State) : (delay d s).rx = s.rx := rfl
@[simp] theorem delay_ry (d : Nat) (s : State) : (delay d s).ry = s.ry := rfl
@[simp] theorem delay_analog (d : Nat) (s : State) : (delay d s).analog = s.analog := rfl
@[simp] theorem delay_stateValid (d : Nat) (s : State) : (delay d s).stateValid = s.stateValid := rfl
@[simp] theorem delay_resultKnown (d : Nat) (s : State) : (delay d s).resultKnown = s.resultKnown := rfl
@[simp] theorem delay_script (d : Nat) (s : State) : (delay d s).script = s.script := rfl
@[simp] theorem delay_datIn (d : Nat) (s : State) : (delay d s).datIn = s.datIn := rfl
@[simp] theorem delay_ackIn (d : Nat) (s : State) : (delay d s).ackIn = s.ackIn := rfl
@[simp] theorem delay_trace (d : Nat) (s : State) : (delay d s).trace = .delay d :: s.trace := rfl
@[simp] theorem delay_rdData (d : Nat) (s : State) : (delay d s).rdData = s.rdData := rfl
@[simp] theorem delay_freeCtr (d : Nat) (s : State) : (delay d s).freeCtr = s.freeCtr := rfl

/-! readDat (R43) -/

@[simp] theorem readDat_clk (s : State) : (readDat s).clk = s.clk := rfl
@[simp] theorem readDat_cmd (s : State) : (readDat s).cmd = s.cmd := rfl
@[simp] theorem readDat_sel (s : State) : (readDat s).sel = s.sel := rfl
@[simp] theorem readDat_arg (s : State) : (readDat s).arg = s.arg := rfl
@[simp] theorem readDat_result (s : State) : (readDat s).result = s.result := rfl
@[simp] theorem readDat_frame (s : State) : (readDat s).frame = s.frame := rfl
@[simp] theorem readDat_frameValid (s : State) : (readDat s).frameValid = s.frameValid := rfl
@[simp] theorem readDat_txb (s : State) : (readDat s).txb = s.txb := rfl
@[simp] theorem readDat_rxb (s : State) : (readDat s).rxb = s.rxb := rfl
@[simp] theorem readDat_opRun (s : State) : (readDat s).opRun = s.opRun := rfl
@[simp] theorem readDat_ph (s : State) : (readDat s).ph = s.ph := rfl
@[simp] theorem readDat_k (s : State) : (readDat s).k = s.k := rfl
@[simp] theorem readDat_i (s : State) : (readDat s).i = s.i := rfl
@[simp] theorem readDat_n (s : State) : (readDat s).n = s.n := rfl
@[simp] theorem readDat_busy (s : State) : (readDat s).busy = s.busy := rfl
@[simp] theorem readDat_done (s : State) : (readDat s).done = s.done := rfl
@[simp] theorem readDat_err (s : State) : (readDat s).err = s.err := rfl
@[simp] theorem readDat_refused (s : State) : (readDat s).refused = s.refused := rfl
@[simp] theorem readDat_errIndex (s : State) : (readDat s).errIndex = s.errIndex := rfl
@[simp] theorem readDat_btnA (s : State) : (readDat s).btnA = s.btnA := rfl
@[simp] theorem readDat_btnB (s : State) : (readDat s).btnB = s.btnB := rfl
@[simp] theorem readDat_lx (s : State) : (readDat s).lx = s.lx := rfl
@[simp] theorem readDat_ly (s : State) : (readDat s).ly = s.ly := rfl
@[simp] theorem readDat_rx (s : State) : (readDat s).rx = s.rx := rfl
@[simp] theorem readDat_ry (s : State) : (readDat s).ry = s.ry := rfl
@[simp] theorem readDat_analog (s : State) : (readDat s).analog = s.analog := rfl
@[simp] theorem readDat_stateValid (s : State) : (readDat s).stateValid = s.stateValid := rfl
@[simp] theorem readDat_resultKnown (s : State) : (readDat s).resultKnown = s.resultKnown := rfl
@[simp] theorem readDat_script (s : State) : (readDat s).script = s.script := rfl
@[simp] theorem readDat_datIn (s : State) : (readDat s).datIn = s.datIn.tail := rfl
@[simp] theorem readDat_ackIn (s : State) : (readDat s).ackIn = s.ackIn := rfl
@[simp] theorem readDat_trace (s : State) : (readDat s).trace = .read .dat (datNow s) :: s.trace := rfl
@[simp] theorem readDat_rdData (s : State) : (readDat s).rdData = s.rdData := rfl
@[simp] theorem readDat_freeCtr (s : State) : (readDat s).freeCtr = s.freeCtr := rfl

/-! readAck (R43) -/

@[simp] theorem readAck_clk (s : State) : (readAck s).clk = s.clk := rfl
@[simp] theorem readAck_cmd (s : State) : (readAck s).cmd = s.cmd := rfl
@[simp] theorem readAck_sel (s : State) : (readAck s).sel = s.sel := rfl
@[simp] theorem readAck_arg (s : State) : (readAck s).arg = s.arg := rfl
@[simp] theorem readAck_result (s : State) : (readAck s).result = s.result := rfl
@[simp] theorem readAck_frame (s : State) : (readAck s).frame = s.frame := rfl
@[simp] theorem readAck_frameValid (s : State) : (readAck s).frameValid = s.frameValid := rfl
@[simp] theorem readAck_txb (s : State) : (readAck s).txb = s.txb := rfl
@[simp] theorem readAck_rxb (s : State) : (readAck s).rxb = s.rxb := rfl
@[simp] theorem readAck_opRun (s : State) : (readAck s).opRun = s.opRun := rfl
@[simp] theorem readAck_ph (s : State) : (readAck s).ph = s.ph := rfl
@[simp] theorem readAck_k (s : State) : (readAck s).k = s.k := rfl
@[simp] theorem readAck_i (s : State) : (readAck s).i = s.i := rfl
@[simp] theorem readAck_n (s : State) : (readAck s).n = s.n := rfl
@[simp] theorem readAck_busy (s : State) : (readAck s).busy = s.busy := rfl
@[simp] theorem readAck_done (s : State) : (readAck s).done = s.done := rfl
@[simp] theorem readAck_err (s : State) : (readAck s).err = s.err := rfl
@[simp] theorem readAck_refused (s : State) : (readAck s).refused = s.refused := rfl
@[simp] theorem readAck_errIndex (s : State) : (readAck s).errIndex = s.errIndex := rfl
@[simp] theorem readAck_btnA (s : State) : (readAck s).btnA = s.btnA := rfl
@[simp] theorem readAck_btnB (s : State) : (readAck s).btnB = s.btnB := rfl
@[simp] theorem readAck_lx (s : State) : (readAck s).lx = s.lx := rfl
@[simp] theorem readAck_ly (s : State) : (readAck s).ly = s.ly := rfl
@[simp] theorem readAck_rx (s : State) : (readAck s).rx = s.rx := rfl
@[simp] theorem readAck_ry (s : State) : (readAck s).ry = s.ry := rfl
@[simp] theorem readAck_analog (s : State) : (readAck s).analog = s.analog := rfl
@[simp] theorem readAck_stateValid (s : State) : (readAck s).stateValid = s.stateValid := rfl
@[simp] theorem readAck_resultKnown (s : State) : (readAck s).resultKnown = s.resultKnown := rfl
@[simp] theorem readAck_script (s : State) : (readAck s).script = s.script := rfl
@[simp] theorem readAck_datIn (s : State) : (readAck s).datIn = s.datIn := rfl
@[simp] theorem readAck_ackIn (s : State) : (readAck s).ackIn = s.ackIn.tail := rfl
@[simp] theorem readAck_trace (s : State) : (readAck s).trace = .read .ack (ackNow s) :: s.trace := rfl
@[simp] theorem readAck_rdData (s : State) : (readAck s).rdData = s.rdData := rfl
@[simp] theorem readAck_freeCtr (s : State) : (readAck s).freeCtr = s.freeCtr := rfl

/-! loadByte (R126) -/

@[simp] theorem loadByte_clk (out : Byte) (s : State) : (loadByte out s).clk = s.clk := rfl
@[simp] theorem loadByte_cmd (out : Byte) (s : State) : (loadByte out s).cmd = s.cmd := rfl
@[simp] theorem loadByte_sel (out : Byte) (s : State) : (loadByte out s).sel = s.sel := rfl
@[simp] theorem loadByte_arg (out : Byte) (s : State) : (loadByte out s).arg = s.arg := rfl
@[simp] theorem loadByte_result (out : Byte) (s : State) : (loadByte out s).result = s.result := rfl
@[simp] theorem loadByte_frame (out : Byte) (s : State) : (loadByte out s).frame = s.frame := rfl
@[simp] theorem loadByte_frameValid (out : Byte) (s : State) : (loadByte out s).frameValid = s.frameValid := rfl
@[simp] theorem loadByte_txb (out : Byte) (s : State) : (loadByte out s).txb = out := rfl
@[simp] theorem loadByte_rxb (out : Byte) (s : State) : (loadByte out s).rxb = s.rxb := rfl
@[simp] theorem loadByte_opRun (out : Byte) (s : State) : (loadByte out s).opRun = s.opRun := rfl
@[simp] theorem loadByte_ph (out : Byte) (s : State) : (loadByte out s).ph = s.ph := rfl
@[simp] theorem loadByte_k (out : Byte) (s : State) : (loadByte out s).k = s.k := rfl
@[simp] theorem loadByte_i (out : Byte) (s : State) : (loadByte out s).i = 0 := rfl
@[simp] theorem loadByte_n (out : Byte) (s : State) : (loadByte out s).n = 0 := rfl
@[simp] theorem loadByte_busy (out : Byte) (s : State) : (loadByte out s).busy = s.busy := rfl
@[simp] theorem loadByte_done (out : Byte) (s : State) : (loadByte out s).done = s.done := rfl
@[simp] theorem loadByte_err (out : Byte) (s : State) : (loadByte out s).err = s.err := rfl
@[simp] theorem loadByte_refused (out : Byte) (s : State) : (loadByte out s).refused = s.refused := rfl
@[simp] theorem loadByte_errIndex (out : Byte) (s : State) : (loadByte out s).errIndex = s.errIndex := rfl
@[simp] theorem loadByte_btnA (out : Byte) (s : State) : (loadByte out s).btnA = s.btnA := rfl
@[simp] theorem loadByte_btnB (out : Byte) (s : State) : (loadByte out s).btnB = s.btnB := rfl
@[simp] theorem loadByte_lx (out : Byte) (s : State) : (loadByte out s).lx = s.lx := rfl
@[simp] theorem loadByte_ly (out : Byte) (s : State) : (loadByte out s).ly = s.ly := rfl
@[simp] theorem loadByte_rx (out : Byte) (s : State) : (loadByte out s).rx = s.rx := rfl
@[simp] theorem loadByte_ry (out : Byte) (s : State) : (loadByte out s).ry = s.ry := rfl
@[simp] theorem loadByte_analog (out : Byte) (s : State) : (loadByte out s).analog = s.analog := rfl
@[simp] theorem loadByte_stateValid (out : Byte) (s : State) : (loadByte out s).stateValid = s.stateValid := rfl
@[simp] theorem loadByte_resultKnown (out : Byte) (s : State) : (loadByte out s).resultKnown = s.resultKnown := rfl
@[simp] theorem loadByte_script (out : Byte) (s : State) : (loadByte out s).script = s.script := rfl
@[simp] theorem loadByte_datIn (out : Byte) (s : State) : (loadByte out s).datIn = s.datIn := rfl
@[simp] theorem loadByte_ackIn (out : Byte) (s : State) : (loadByte out s).ackIn = s.ackIn := rfl
@[simp] theorem loadByte_trace (out : Byte) (s : State) : (loadByte out s).trace = s.trace := rfl
@[simp] theorem loadByte_rdData (out : Byte) (s : State) : (loadByte out s).rdData = s.rdData := rfl
@[simp] theorem loadByte_freeCtr (out : Byte) (s : State) : (loadByte out s).freeCtr = s.freeCtr := rfl

/-! lineWrite (R42): the latch and the trace change, nothing else -/

@[simp] theorem latchOf_clk (s : State) : latchOf .clk s = s.clk := rfl
@[simp] theorem latchOf_cmd (s : State) : latchOf .cmd s = s.cmd := rfl
@[simp] theorem latchOf_sel (s : State) : latchOf .sel s = s.sel := rfl
@[simp] theorem lineWrite_clk (l : OutLine) (b : Bool) (s : State) :
    (lineWrite l b s).clk = if l = .clk then b else s.clk := by cases l <;> rfl
@[simp] theorem lineWrite_cmd (l : OutLine) (b : Bool) (s : State) :
    (lineWrite l b s).cmd = if l = .cmd then b else s.cmd := by cases l <;> rfl
@[simp] theorem lineWrite_sel (l : OutLine) (b : Bool) (s : State) :
    (lineWrite l b s).sel = if l = .sel then b else s.sel := by cases l <;> rfl
@[simp] theorem lineWrite_arg (l : OutLine) (b : Bool) (s : State) : (lineWrite l b s).arg = s.arg := by cases l <;> rfl
@[simp] theorem lineWrite_result (l : OutLine) (b : Bool) (s : State) : (lineWrite l b s).result = s.result := by cases l <;> rfl
@[simp] theorem lineWrite_frame (l : OutLine) (b : Bool) (s : State) : (lineWrite l b s).frame = s.frame := by cases l <;> rfl
@[simp] theorem lineWrite_frameValid (l : OutLine) (b : Bool) (s : State) : (lineWrite l b s).frameValid = s.frameValid := by cases l <;> rfl
@[simp] theorem lineWrite_txb (l : OutLine) (b : Bool) (s : State) : (lineWrite l b s).txb = s.txb := by cases l <;> rfl
@[simp] theorem lineWrite_rxb (l : OutLine) (b : Bool) (s : State) : (lineWrite l b s).rxb = s.rxb := by cases l <;> rfl
@[simp] theorem lineWrite_opRun (l : OutLine) (b : Bool) (s : State) : (lineWrite l b s).opRun = s.opRun := by cases l <;> rfl
@[simp] theorem lineWrite_ph (l : OutLine) (b : Bool) (s : State) : (lineWrite l b s).ph = s.ph := by cases l <;> rfl
@[simp] theorem lineWrite_k (l : OutLine) (b : Bool) (s : State) : (lineWrite l b s).k = s.k := by cases l <;> rfl
@[simp] theorem lineWrite_i (l : OutLine) (b : Bool) (s : State) : (lineWrite l b s).i = s.i := by cases l <;> rfl
@[simp] theorem lineWrite_n (l : OutLine) (b : Bool) (s : State) : (lineWrite l b s).n = s.n := by cases l <;> rfl
@[simp] theorem lineWrite_busy (l : OutLine) (b : Bool) (s : State) : (lineWrite l b s).busy = s.busy := by cases l <;> rfl
@[simp] theorem lineWrite_done (l : OutLine) (b : Bool) (s : State) : (lineWrite l b s).done = s.done := by cases l <;> rfl
@[simp] theorem lineWrite_err (l : OutLine) (b : Bool) (s : State) : (lineWrite l b s).err = s.err := by cases l <;> rfl
@[simp] theorem lineWrite_refused (l : OutLine) (b : Bool) (s : State) : (lineWrite l b s).refused = s.refused := by cases l <;> rfl
@[simp] theorem lineWrite_errIndex (l : OutLine) (b : Bool) (s : State) : (lineWrite l b s).errIndex = s.errIndex := by cases l <;> rfl
@[simp] theorem lineWrite_btnA (l : OutLine) (b : Bool) (s : State) : (lineWrite l b s).btnA = s.btnA := by cases l <;> rfl
@[simp] theorem lineWrite_btnB (l : OutLine) (b : Bool) (s : State) : (lineWrite l b s).btnB = s.btnB := by cases l <;> rfl
@[simp] theorem lineWrite_lx (l : OutLine) (b : Bool) (s : State) : (lineWrite l b s).lx = s.lx := by cases l <;> rfl
@[simp] theorem lineWrite_ly (l : OutLine) (b : Bool) (s : State) : (lineWrite l b s).ly = s.ly := by cases l <;> rfl
@[simp] theorem lineWrite_rx (l : OutLine) (b : Bool) (s : State) : (lineWrite l b s).rx = s.rx := by cases l <;> rfl
@[simp] theorem lineWrite_ry (l : OutLine) (b : Bool) (s : State) : (lineWrite l b s).ry = s.ry := by cases l <;> rfl
@[simp] theorem lineWrite_analog (l : OutLine) (b : Bool) (s : State) : (lineWrite l b s).analog = s.analog := by cases l <;> rfl
@[simp] theorem lineWrite_stateValid (l : OutLine) (b : Bool) (s : State) : (lineWrite l b s).stateValid = s.stateValid := by cases l <;> rfl
@[simp] theorem lineWrite_resultKnown (l : OutLine) (b : Bool) (s : State) : (lineWrite l b s).resultKnown = s.resultKnown := by cases l <;> rfl
@[simp] theorem lineWrite_script (l : OutLine) (b : Bool) (s : State) : (lineWrite l b s).script = s.script := by cases l <;> rfl
@[simp] theorem lineWrite_datIn (l : OutLine) (b : Bool) (s : State) : (lineWrite l b s).datIn = s.datIn := by cases l <;> rfl
@[simp] theorem lineWrite_ackIn (l : OutLine) (b : Bool) (s : State) : (lineWrite l b s).ackIn = s.ackIn := by cases l <;> rfl
@[simp] theorem lineWrite_trace (l : OutLine) (b : Bool) (s : State) :
    (lineWrite l b s).trace = .write l b :: s.trace := by cases l <;> rfl
@[simp] theorem lineWrite_rdData (l : OutLine) (b : Bool) (s : State) : (lineWrite l b s).rdData = s.rdData := by cases l <;> rfl
@[simp] theorem lineWrite_freeCtr (l : OutLine) (b : Bool) (s : State) : (lineWrite l b s).freeCtr = s.freeCtr := by cases l <;> rfl

/-! The free inputs depend on the samples listed and on the trace alone. -/

@[simp] theorem datNow_cons (s : State) (b : Bool) (bs : List Bool) (h : s.datIn = b :: bs) : datNow s = b := by
  simp [datNow, h]

@[simp] theorem ackNow_cons (s : State) (b : Bool) (bs : List Bool) (h : s.ackIn = b :: bs) : ackNow s = b := by
  simp [ackNow, h]

theorem datNow_congr {s t : State} (hd : t.datIn = s.datIn) (ht : t.trace = s.trace) : datNow t = datNow s := by
  simp [datNow, hd, ht]

theorem ackNow_congr {s t : State} (hd : t.ackIn = s.ackIn) (ht : t.trace = s.trace) : ackNow t = ackNow s := by
  simp [ackNow, hd, ht]

end Sys2Proof.Machine
end

