-- ==== Sys2Proof/Laws/Ops.lean ====
section
/-! SUPPORT. One lemma per shared operation that says what it can do: bit operations, host reads and writes, the view of the
frame, the elapsed time, one bit cell, the acknowledgement wait, a byte exchange. -/

namespace Sys2Proof.Machine

/-! ## Bits -/

theorem setBit_getLsbD (v : Byte) (i j : Fin 8) (b : Bool) :
    (setBit v i b).getLsbD j = if j = i then b else v.getLsbD j := by
  fin_cases i <;> fin_cases j <;> cases b <;> simp [setBit]

/-- Eight bits written in wire order leave nothing of the byte they were written into (R126: `rxb` is not cleared). -/
theorem setBit_all (v w : Byte) :
    (List.finRange 8).foldl (fun r j => setBit r j (v.getLsbD j)) w = v := by
  have h : List.finRange 8 = [0, 1, 2, 3, 4, 5, 6, 7] := by decide
  rw [h]
  apply BitVec.eq_of_getLsbD_eq
  intro j hj
  have hs := fun a i b => setBit_getLsbD a i ⟨j, hj⟩ b
  simp only [Fin.ext_iff] at hs
  simp only [List.foldl_cons, List.foldl_nil, hs]
  interval_cases j <;> simp

/-! ## The host's accesses -/

/-- A host read changes the host's last read and, where the value is free, the count of free bytes (R41). -/
theorem hostRead_eq (a : RegNo) (s : State) : ∃ rd free, hostRead a s = { s with rdData := rd, freeCtr := free } := by
  unfold hostRead
  cases regValue a s with
  | some v => exact ⟨v, s.freeCtr, rfl⟩
  | none => exact ⟨_, _, rfl⟩

theorem hostRead_status (s : State) : hostRead 0x02#5 s = { s with rdData := statusByte s } := rfl

theorem writeReg_arg (v : Byte) (s : State) : writeReg 0x01#5 v s = { s with arg := v } := rfl

theorem writeReg_other {a : RegNo} (v : Byte) (s : State) (h : a ≠ 0x01#5) : writeReg a v s = s := if_neg h

/-! ## The frame -/

theorem frameView_readable {s : State} (hv : s.frameValid = true) (hb : s.busy = false) : frameView s = s.frame := by
  simp [frameView, frameReadable, hv, hb]

theorem afterFrameView_readable {s : State} (hv : s.frameValid = true) (hb : s.busy = false) : afterFrameView s = s := by
  simp [afterFrameView, frameReadable, hv, hb]

/-- Looking at the frame changes the count of free bytes at most. -/
theorem afterFrameView_eq (s : State) : ∃ free, afterFrameView s = { s with freeCtr := free } := by
  unfold afterFrameView
  split
  · exact ⟨s.freeCtr, rfl⟩
  · exact ⟨_, rfl⟩

/-- Storing a received byte leaves all but the frame byte, `k` and the control point. -/
theorem storeReceived_eq (k : Fin Config.frameLen) (v : Byte) (s : State) :
    ∃ k' ph', storeReceived k v s = { s with frame := s.frame.set k v, k := k', ph := ph' } := by
  unfold storeReceived
  split
  · exact ⟨_, _, rfl⟩
  · exact ⟨_, _, rfl⟩

/-! ## Time -/

theorem elapsed_append (a b : List Event) : elapsed (a ++ b) = elapsed a + elapsed b := by
  induction a with
  | nil => simp [elapsed]
  | cons e a ih =>
    cases e with
    | delay d => simp only [List.cons_append, elapsed, ih]; omega
    | write l x => simpa only [List.cons_append, elapsed] using ih
    | read l x => simpa only [List.cons_append, elapsed] using ih

/-! ## The byte exchange -/

/-- One bit cell with the bit `b` its sample of `DAT` returns (R102). -/
theorem bitCell_eq (s : State) (j : Fin 8) : ∃ b : Bool, (∀ x xs, s.datIn = x :: xs → b = x) ∧ bitCell s j = { s with
    i := j, clk := true, cmd := bitOf s.txb j, rxb := setBit s.rxb j b, datIn := s.datIn.tail
    trace := .write .clk true :: .read .dat b :: .delay 10 :: .write .clk false :: .write .cmd (bitOf s.txb j) :: .delay 10 :: s.trace } := by
  refine ⟨_, ?_, rfl⟩
  intro x xs h
  exact datNow_cons _ x xs h

/-- What the acknowledgement wait with `r` samples left can do (R103): it takes at least one sample and at most `r`, and without success all `r`. -/
theorem ackWait_spec (r : Nat) (s : State) : ∃ t : State,
    (ackWait r s).1 = { s with n := t.n, ackIn := s.ackIn.drop (t.n - s.n), trace := t.trace } ∧
      s.n ≤ t.n ∧ t.n ≤ s.n + r ∧ (0 < r → s.n < t.n) ∧ ((ackWait r s).2 = false → t.n = s.n + r) := by
  induction r generalizing s with
  | zero => exact ⟨s, by simp [ackWait]⟩
  | succ r ih =>
    unfold ackWait
    cases ha : ackNow s
    · exact ⟨pollAck s, by simp [pollAck, readAck, emit]⟩
    · obtain ⟨t, h1, h2, h3, -, h5⟩ := ih (delay Config.tHalf (pollAck s))
      simp only [if_true]
      have hn : (delay Config.tHalf (pollAck s)).n = s.n + 1 := rfl
      rw [hn] at h1 h2 h3 h5
      refine ⟨t, ?_, by omega, by omega, fun _ => by omega, fun hf => by rw [h5 hf]; omega⟩
      rw [h1]
      have hd : (delay Config.tHalf (pollAck s)).ackIn.drop (t.n - (s.n + 1)) = s.ackIn.drop (t.n - s.n) := by
        show s.ackIn.tail.drop (t.n - (s.n + 1)) = _
        rw [← List.drop_one, List.drop_drop]
        congr 1
        omega
      rw [hd]
      rfl

/-- An exchange ends at one of the two control points (R101). -/
theorem exchangeByte_ph (out : Byte) (s : State) : (exchangeByte out s).ph = .xOk ∨ (exchangeByte out s).ph = .xFail := by
  unfold exchangeByte settleExchange
  simp only
  split <;> simp

/-- What an exchange does not touch (R100, R101). -/
def ExchangeKeeps (s t : State) : Prop :=
  padOf t = padOf s ∧ operandsOf t = operandsOf s ∧ statusOf t = statusOf s ∧ t.sel = s.sel ∧ t.opRun = s.opRun ∧ frameOf t = frameOf s ∧
    t.k = s.k ∧ t.script = s.script ∧ t.rdData = s.rdData ∧ t.freeCtr = s.freeCtr

theorem ExchangeKeeps.trans {s t u : State} (h : ExchangeKeeps s t) (g : ExchangeKeeps t u) : ExchangeKeeps s u := by
  unfold ExchangeKeeps at *
  simp_all

theorem bitCell_keeps (s : State) (j : Fin 8) : ExchangeKeeps s (bitCell s j) := by
  obtain ⟨b, -, h⟩ := bitCell_eq s j
  rw [h]
  simp [ExchangeKeeps, padOf, operandsOf, statusOf, frameOf]

theorem byteCells_keeps (s : State) : ExchangeKeeps s (byteCells s) := by
  unfold byteCells
  generalize List.finRange 8 = l
  induction l generalizing s with
  | nil => simp [ExchangeKeeps]
  | cons j l ih => exact (bitCell_keeps s j).trans (ih _)

theorem ackWait_keeps (r : Nat) (s : State) : ExchangeKeeps s (ackWait r s).1 := by
  obtain ⟨t, h, -⟩ := ackWait_spec r s
  rw [h]
  simp [ExchangeKeeps, padOf, operandsOf, statusOf, frameOf]

theorem exchangeByte_keeps (out : Byte) (s : State) : ExchangeKeeps s (exchangeByte out s) := by
  have h := (byteCells_keeps (loadByte out s)).trans (ackWait_keeps Config.ackPollMax _)
  unfold ExchangeKeeps at *
  exact h

end Sys2Proof.Machine
end

