-- ==== Sys2Proof/Laws/PerInstr.lean ====
section
/-! SUPPORT. Statements for all instructions, made per instruction (LAWS.json): the family Placement says that an instruction is encoded at the
place the opcode table's format gives its row. -/

namespace Sys2Proof.Laws.Placement

/-- The column "format" of spec/opcode_table.json. -/
def rowFormat : Instr → Format
  | .setClock => .hcmd
  | .setSelect => .hcmd
  | .setCommand => .hcmd
  | .readData => .hcmd
  | .readAck => .hcmd
  | .exchangeByte => .hcmd
  | .runTransaction => .hcmd
  | .decode => .hcmd
  | .reserved _ _ => .hcmd
  | .poll => .pseudo
  | .wcmdStart => .wcmd
  | .wcmdPoll => .wcmd
  | .wcmdPad => .wcmd
  | .txSeq0 => .txSeq
  | .txSeq1 => .txSeq
  | .txSeq2 => .txSeq
  | .txSeq3 => .txSeq
  | .txSeq4 => .txSeq
  | .txSeq5 => .txSeq
  | .txSeq6 => .txSeq
  | .txSeq7 => .txSeq
  | .txSeq8 => .txSeq
  | .wbyte _ => .wbyte
  | .fStart _ => .frame
  | .fMode _ => .frame
  | .fCheck _ => .frame
  | .fBtnA _ => .frame
  | .fBtnB _ => .frame
  | .fRx _ => .frame
  | .fRy _ => .frame
  | .fLx _ => .frame
  | .fLy _ => .frame
  | .modeDigital => .frameB1
  | .modeAnalog _ => .frameB1
  | .ctlSelect => .frameB3
  | .ctlLeftStick => .frameB3
  | .ctlRightStick => .frameB3
  | .ctlStart => .frameB3
  | .ctlUp => .frameB3
  | .ctlRight => .frameB3
  | .ctlDown => .frameB3
  | .ctlLeft => .frameB3
  | .ctlL2 => .frameB4
  | .ctlR2 => .frameB4
  | .ctlL1 => .frameB4
  | .ctlR1 => .frameB4
  | .ctlTriangle => .frameB4
  | .ctlCircle => .frameB4
  | .ctlCross => .frameB4
  | .ctlSquare => .frameB4

/-- The coded form of an instruction stands at the place of its row's format (R60). -/
def Statement (i : Instr) : Prop :=
  codeFormat (encode i) = rowFormat i

theorem setClock : Statement .setClock := rfl

theorem setSelect : Statement .setSelect := rfl

theorem setCommand : Statement .setCommand := rfl

theorem readData : Statement .readData := rfl

theorem readAck : Statement .readAck := rfl

theorem exchangeByte : Statement .exchangeByte := rfl

theorem runTransaction : Statement .runTransaction := rfl

theorem decode : Statement .decode := rfl

theorem reserved (rsv : BitVec 5) (op : BitVec 3) : Statement (.reserved rsv op) := rfl

theorem poll : Statement .poll := rfl

theorem wcmdStart : Statement .wcmdStart := rfl

theorem wcmdPoll : Statement .wcmdPoll := rfl

theorem wcmdPad : Statement .wcmdPad := rfl

theorem txSeq0 : Statement .txSeq0 := rfl

theorem txSeq1 : Statement .txSeq1 := rfl

theorem txSeq2 : Statement .txSeq2 := rfl

theorem txSeq3 : Statement .txSeq3 := rfl

theorem txSeq4 : Statement .txSeq4 := rfl

theorem txSeq5 : Statement .txSeq5 := rfl

theorem txSeq6 : Statement .txSeq6 := rfl

theorem txSeq7 : Statement .txSeq7 := rfl

theorem txSeq8 : Statement .txSeq8 := rfl

theorem wbyte (out : Byte) : Statement (.wbyte out) := rfl

theorem fStart (v : Byte) : Statement (.fStart v) := rfl

theorem fMode (v : Byte) : Statement (.fMode v) := rfl

theorem fCheck (v : Byte) : Statement (.fCheck v) := rfl

theorem fBtnA (v : Byte) : Statement (.fBtnA v) := rfl

theorem fBtnB (v : Byte) : Statement (.fBtnB v) := rfl

theorem fRx (v : Byte) : Statement (.fRx v) := rfl

theorem fRy (v : Byte) : Statement (.fRy v) := rfl

theorem fLx (v : Byte) : Statement (.fLx v) := rfl

theorem fLy (v : Byte) : Statement (.fLy v) := rfl

theorem modeDigital : Statement .modeDigital := rfl

theorem modeAnalog (v : Byte) : Statement (.modeAnalog v) := rfl

theorem ctlSelect : Statement .ctlSelect := rfl

theorem ctlLeftStick : Statement .ctlLeftStick := rfl

theorem ctlRightStick : Statement .ctlRightStick := rfl

theorem ctlStart : Statement .ctlStart := rfl

theorem ctlUp : Statement .ctlUp := rfl

theorem ctlRight : Statement .ctlRight := rfl

theorem ctlDown : Statement .ctlDown := rfl

theorem ctlLeft : Statement .ctlLeft := rfl

theorem ctlL2 : Statement .ctlL2 := rfl

theorem ctlR2 : Statement .ctlR2 := rfl

theorem ctlL1 : Statement .ctlL1 := rfl

theorem ctlR1 : Statement .ctlR1 := rfl

theorem ctlTriangle : Statement .ctlTriangle := rfl

theorem ctlCircle : Statement .ctlCircle := rfl

theorem ctlCross : Statement .ctlCross := rfl

theorem ctlSquare : Statement .ctlSquare := rfl

end Sys2Proof.Laws.Placement
end

