-- ==== Sys2Proof/Laws/Sequencer.lean ====
section
/-! SUPPORT. What one step of the sequencer and one host line can do, said once: the rows the sequencer fetches, its step as a total
function of the state, and the inversion of a step of the machine. -/

namespace Sys2Proof.Machine

/-! ## The rows fetched at X_LOAD and X_OK -/

theorem decode_txSeq (k : Fin Config.frameLen) : decode (.txSeq k (Config.txSeq k)) = .ok (txSeqRow k) := by
  simp [decode]

theorem decode_frame (k : Fin Config.frameLen) (v : Byte) : decode (.frame k v) = .ok (frameRow k v) := rfl

theorem decode_hcmd (v : Byte) : decode (.hcmd v) = .ok (decodeHcmd v) := rfl

theorem exec_txSeqRow (k : Fin Config.frameLen) (s : State) :
    exec (txSeqRow k) s = .next (loadExchange (Config.txSeq k) s) := by
  fin_cases k <;> rfl

theorem exec_frameRow (k : Fin Config.frameLen) (v : Byte) (s : State) :
    exec (frameRow k v) s = .next (storeReceived k v s) := by
  fin_cases k <;> rfl

theorem runCode_txSeq (k : Fin Config.frameLen) (s : State) :
    runCode (.txSeq k (Config.txSeq k)) s = .next (loadExchange (Config.txSeq k) s) := by
  simp only [runCode, decode_txSeq, exec_txSeqRow]

theorem runCode_frame (k : Fin Config.frameLen) (v : Byte) (s : State) :
    runCode (.frame k v) s = .next (storeReceived k v s) := by
  simp only [runCode, decode_frame, exec_frameRow]

theorem runCode_hcmd (v : Byte) (s : State) : runCode (.hcmd v) s = exec (decodeHcmd v) s := rfl

/-! ## One step of the sequencer as a function -/

/-- The state after one step of the sequencer where it has one (R126). -/
def seqNext (s : State) : State :=
  match s.ph with
  | .idle => s
  | .tCmdIdle => { lineWrite .cmd true s with ph := .tClkIdle }
  | .tClkIdle => { lineWrite .clk true s with ph := .tSelOn }
  | .tSelOn => { lineWrite .sel true s with ph := .tSetup }
  | .tSetup => { delay Config.tClk s with k := 0, ph := .xLoad }
  | .xLoad => loadExchange (if s.opRun = .txn then Config.txSeq s.k else s.txb) s
  | .bPre => { delay Config.tClk s with ph := .bCmd }
  | .bCmd => { lineWrite .cmd (bitOf s.txb s.i) s with ph := .bClkLo }
  | .bClkLo => { lineWrite .clk false s with ph := .bLow }
  | .bLow => { delay Config.tClk s with ph := .bSample }
  | .bSample => { sampleBit s with ph := .bClkHi }
  | .bClkHi => stepBClkHi s
  | .aPoll => stepAPoll s
  | .aWait => stepAWait s
  | .xOk => if s.opRun = .txn then storeReceived s.k s.rxb s else complete (setResult s.rxb s)
  | .xFail => raiseAckTimeout s
  | .tCmdEnd => { lineWrite .cmd Config.cmdEndLevel s with ph := .tSelOff }
  | .tSelOff => complete { lineWrite .sel false s with frameValid := true }

theorem seqStep_eq (s : State) :
    seqStep s = if s.ph = .xOk ∧ s.opRun = .none then .fault .xOkWithoutOperation else .next (seqNext s) := by
  cases hp : s.ph <;> simp [seqStep, seqNext, hp]
  · cases ho : s.opRun <;> simp [stepXLoad, ho, runCode_txSeq]
  · cases ho : s.opRun <;> simp [stepXOk, ho, runCode_frame]

theorem seqStep_next {s : State} (h : s.ph = .xOk → s.opRun ≠ .none) : seqStep s = .next (seqNext s) := by
  rw [seqStep_eq, if_neg fun hc => h hc.1 hc.2]

theorem seqStep_inv {s t : State} (h : seqStep s = .next t) : t = seqNext s ∧ (s.ph = .xOk → s.opRun ≠ .none) := by
  rw [seqStep_eq] at h
  split at h
  · cases h
  · rename_i hc
    injection h with h
    exact ⟨h.symm, fun hp ho => hc ⟨hp, ho⟩⟩

/-! ## What a step of the machine can do -/

/-- The five shapes of a step: the outside's own bookkeeping, a write to `ARG`, a command, the sequencer's turn, reset. In each, `s'` is the
state before with the script moved on and, where the host has read STATUS, its last read set. -/
theorem step_cases {s t : State} (h : step s = .next t) :
    ∃ (script : List HostLine) (rd : Byte) (free : Nat),
      let s' := { s with script := script, rdData := rd, freeCtr := free }
      t = s' ∨ (∃ v, t = { s' with arg := v }) ∨
      (∃ v, (∃ rest, s.script = .wr cmdReg v :: rest ∨ (s.script = .wrIfOk cmdReg v :: rest ∧ s.err = false)) ∧
        exec (decodeHcmd v) s' = .next t) ∨
      (seqStep s' = .next t) ∨ ((∃ rest, s.script = .reset :: rest) ∧ t = applyReset s') := by
  have hread : ∀ (a : RegNo) (u : State), ∃ rd free, hostRead a u = { u with rdData := rd, freeCtr := free } := by
    intro a u
    unfold hostRead
    cases regValue a u with
    | some v => exact ⟨v, u.freeCtr, rfl⟩
    | none => exact ⟨_, _, rfl⟩
  unfold step at h
  cases hs : s.script with
  | nil =>
    rw [hs] at h
    refine ⟨[], s.rdData, s.freeCtr, Or.inr (Or.inr (Or.inr (Or.inl ?_)))⟩
    rw [← hs]; exact h
  | cons l rest =>
    rw [hs] at h
    cases l with
    | wr a v =>
      simp only [runLine, hostWrite] at h
      refine ⟨rest, s.rdData, s.freeCtr, ?_⟩
      split at h
      · rename_i ha
        exact Or.inr (Or.inr (Or.inl ⟨v, ⟨rest, Or.inl (by rw [ha])⟩, h⟩))
      · injection h with h
        unfold writeReg at h
        split at h
        · exact Or.inr (Or.inl ⟨v, h.symm⟩)
        · exact Or.inl h.symm
    | rd a =>
      simp only [runLine] at h
      injection h with h
      obtain ⟨rd, free, hr⟩ := hread a { s with script := rest }
      exact ⟨rest, rd, free, Or.inl (by rw [← h, hr])⟩
    | wait =>
      simp only [runLine, waitLine] at h
      obtain ⟨rd, free, hr⟩ := hread statusReg s
      split at h
      · refine ⟨s.script, rd, free, Or.inr (Or.inr (Or.inr (Or.inl ?_)))⟩
        rw [hr] at h; exact h
      · injection h with h
        exact ⟨rest, rd, free, Or.inl (by rw [← h, hr])⟩
    | wrIfOk a v =>
      simp only [runLine, writeIfOk] at h
      obtain ⟨rd, free, hr⟩ := hread statusReg { s with script := rest }
      rw [hr] at h
      refine ⟨rest, rd, free, ?_⟩
      split at h
      · injection h with h
        exact Or.inl h.symm
      · rename_i he
        simp only [hostWrite] at h
        split at h
        · rename_i ha
          exact Or.inr (Or.inr (Or.inl ⟨v, ⟨rest, Or.inr ⟨by rw [ha], by simpa using he⟩⟩, h⟩))
        · injection h with h
          unfold writeReg at h
          split at h
          · exact Or.inr (Or.inl ⟨v, h.symm⟩)
          · exact Or.inl h.symm
    | poll =>
      simp only [runLine, runCode, decode, if_true, exec, execPoll] at h
      injection h with h
      exact ⟨pollScript ++ rest, s.rdData, s.freeCtr, Or.inl h.symm⟩
    | tick => exact ⟨rest, s.rdData, s.freeCtr, Or.inr (Or.inr (Or.inr (Or.inl h)))⟩
    | reset =>
      simp only [runLine] at h
      injection h with h
      exact ⟨rest, s.rdData, s.freeCtr, Or.inr (Or.inr (Or.inr (Or.inr ⟨⟨rest, rfl⟩, h.symm⟩)))⟩
    | wide a n => cases h

/-- A command word is one of the eight commands or reserved (R62, R74). -/
theorem decodeHcmd_cases (v : Byte) :
    (8 ≤ v.toNat ∧ ∃ rsv op, decodeHcmd v = .reserved rsv op) ∨
    (v = 0x00#8 ∧ decodeHcmd v = .setClock) ∨ (v = 0x01#8 ∧ decodeHcmd v = .setSelect) ∨
    (v = 0x02#8 ∧ decodeHcmd v = .setCommand) ∨ (v = 0x03#8 ∧ decodeHcmd v = .readData) ∨
    (v = 0x04#8 ∧ decodeHcmd v = .readAck) ∨ (v = 0x05#8 ∧ decodeHcmd v = .exchangeByte) ∨
    (v = 0x06#8 ∧ decodeHcmd v = .runTransaction) ∨ (v = 0x07#8 ∧ decodeHcmd v = .decode) := by
  by_cases h : 8 ≤ v.toNat
  · refine Or.inl ⟨h, v.extractLsb' 3 5, v.extractLsb' 0 3, ?_⟩
    have : v.extractLsb' 3 5 ≠ 0#5 := by
      intro hc
      have := congrArg BitVec.toNat hc
      simp [BitVec.extractLsb'_toNat, Nat.shiftRight_eq_div_pow] at this
      omega
    simp [decodeHcmd, this]
  · have hv : v = BitVec.ofNat 8 v.toNat := by simp
    generalize hn : v.toNat = n at h hv
    have : n < 8 := by omega
    clear h hn
    subst hv
    right
    interval_cases n <;> decide

end Sys2Proof.Machine
end

