-- ==== Sys2Proof/Laws/Run.lean ====
section
/-! SUPPORT. Runs of several steps, cut and joined; and that the control point a byte exchange is entered with, like the outside's own fields
at a step of the sequencer, makes no difference to what is done; and the trace of an acknowledgement wait, one sample more. -/

namespace Sys2Proof.Machine

theorem run_zero (s : State) : run 0 s = .next s := rfl

theorem run_eq (m : Nat) (s : State) : run (m + 1) s =
    (match step s with | .next t => run m t | .fault r => .fault r | .refused r => .refused r) := by
  simp only [run, Host.Core.run, core]
  cases step s <;> simp

/-- One step of a run in which the host has nothing to do. -/
theorem run_seq {s : State} (m : Nat) (h : s.script = []) (hx : s.ph = .xOk → s.opRun ≠ .none) : run (m + 1) s = run m (seqNext s) := by
  have hs : step s = .next (seqNext s) := by
    unfold step
    rw [h]
    exact seqStep_next hx
  rw [run_eq, hs]

theorem run_add {s t : State} {a b : Nat} (h : run a s = .next t) : run (a + b) s = run b t := by
  induction a generalizing s with
  | zero =>
    rw [run_zero] at h
    injection h with h
    rw [h, Nat.zero_add]
  | succ a ih =>
    rw [show a + 1 + b = (a + b) + 1 by omega, run_eq]
    rw [run_eq] at h
    cases hs : step s with
    | next u => rw [hs] at h; exact ih h
    | fault r => rw [hs] at h; cases h
    | refused r => rw [hs] at h; cases h

/-- The sequencer does not look at the script nor at the host's last read. -/
theorem seqNext_outside (s : State) (lines : List HostLine) (rd : Byte) :
    seqNext { s with script := lines, rdData := rd } = { seqNext s with script := lines, rdData := rd } := by
  cases hp : s.ph <;> simp only [seqNext, hp] <;> (try rfl)
  · unfold stepBClkHi; split <;> rfl
  · by_cases ho : s.opRun = .txn
    · by_cases hk : s.k.val + 1 < Config.frameLen <;> simp [storeReceived, hk, storeFrame, ho]
    · simp only [ho, if_false]; rfl

theorem bitCell_ph (s : State) (j : Fin 8) (p : Phase) : bitCell { s with ph := p } j = { bitCell s j with ph := p } := rfl

theorem byteCells_ph (s : State) (p : Phase) : byteCells { s with ph := p } = { byteCells s with ph := p } := by
  unfold byteCells
  generalize List.finRange 8 = l
  induction l generalizing s with
  | nil => rfl
  | cons j l ih =>
    simp only [List.foldl_cons, bitCell_ph]
    exact ih _

theorem ackWait_ph (r : Nat) (s : State) (p : Phase) :
    ackWait r { s with ph := p } = ({ (ackWait r s).1 with ph := p }, (ackWait r s).2) := by
  induction r generalizing s with
  | zero => rfl
  | succ r ih =>
    unfold ackWait
    rw [show ackNow { s with ph := p } = ackNow s from rfl]
    split
    · exact ih (delay Config.tHalf (pollAck s))
    · rfl

theorem exchangeByte_entry (out : Byte) (s : State) (p : Phase) : exchangeByte out { s with ph := p } = exchangeByte out s := by
  unfold exchangeByte
  rw [show loadByte out { s with ph := p } = { loadByte out s with ph := p } from rfl, byteCells_ph, ackWait_ph]
  rfl

/-! ## The trace of an acknowledgement wait -/

@[simp] theorem activePolls_zero : activePolls 0 = [] := rfl

/-- One active sample more, newest event first. -/
theorem activePolls_succ_reverse (m : Nat) :
    (activePolls (m + 1)).reverse = .delay 5 :: .read .ack true :: (activePolls m).reverse := by
  simp [activePolls, List.replicate_succ']

end Sys2Proof.Machine
end

