-- ==== Sys2Proof/Tests/Slice0.lean ====
section
/-! SUPPORT. The model's own tests: words written out from the spec's tables, ill-formed terms, single steps with the results
95_test_vectors gives, and for each obligation with hypotheses a named witness that meets them. -/

namespace Sys2Proof.Tests

open Sys2Proof.Machine

/-- What a test looks at in the outcome of one step. -/
def look {α : Type} (f : State → α) (o : Host.Outcome State Fault Refusal) : Option α :=
  match o with
  | .next t => some (f t)
  | .fault _ => none
  | .refused _ => none

/-- A mode byte that is not the sentinel, the "M" of 95's decoder vectors. -/
def modeM : Byte := Config.digitalModeSentinel + 1#8

theorem modeM_ne : modeM ≠ Config.digitalModeSentinel := by
  simp [modeM]

/-- A frame from the bytes 1, 3, 4, 5, 6, 7, 8 of 95's decoder vectors. -/
def frameOf7 (b1 b3 b4 b5 b6 b7 b8 : Byte) : Vector Byte Config.frameLen :=
  #v[0xFF#8, b1, 0x5A#8, b3, b4, b5, b6, b7, b8]

/-- Idle with a valid frame. -/
def withFrame (f : Vector Byte Config.frameLen) : State :=
  { State.reset with frame := f, frameValid := true }

/-- Inside a transaction at a control point, select active. -/
def inTxn (p : Phase) (k : Fin Config.frameLen) : State :=
  { State.reset with opRun := .txn, ph := p, busy := true, k := k, sel := true }

/-- Inside a stand-alone exchange at a control point. -/
def inXchg (p : Phase) : State :=
  { State.reset with opRun := .xchg, ph := p, busy := true }

/-- The host is about to give one line. -/
def about (l : HostLine) (s : State) : State :=
  { s with script := [l] }

/-! ## WellFormed -/

/-- An ill-formed term: a reserved word whose `rsv` is 0 would be one of the eight commands (R74). -/
theorem test_reserved_needs_rsv : (Instr.reserved 0#5 6#3).wellFormed = false := by decide

theorem test_reserved_wellFormed : (Instr.reserved 1#5 6#3).wellFormed = true := by decide

/-- An ill-formed term: the sentinel is not an analog mode byte (R71). -/
theorem test_modeAnalog_not_sentinel : (Instr.modeAnalog Config.digitalModeSentinel).wellFormed = false := by
  simp [Instr.wellFormed]

theorem test_modeAnalog_wellFormed : (Instr.modeAnalog modeM).wellFormed = true := by
  simp [Instr.wellFormed, modeM_ne]

/-! ## Decoding: a word of every row, written out from R62, R64 to R69, R74, R78 -/

theorem test_decode_hcmd :
    decode (.hcmd 0b00000000#8) = .ok .setClock ∧ decode (.hcmd 0b00000001#8) = .ok .setSelect ∧
    decode (.hcmd 0b00000010#8) = .ok .setCommand ∧ decode (.hcmd 0b00000011#8) = .ok .readData ∧
    decode (.hcmd 0b00000100#8) = .ok .readAck ∧ decode (.hcmd 0b00000101#8) = .ok .exchangeByte ∧
    decode (.hcmd 0b00000110#8) = .ok .runTransaction ∧ decode (.hcmd 0b00000111#8) = .ok .decode :=
  ⟨rfl, rfl, rfl, rfl, rfl, rfl, rfl, rfl⟩

/-- The first and the last reserved byte, and RF2's 0x0E. -/
theorem test_decode_reserved :
    decode (.hcmd 0b00001000#8) = .ok (.reserved 0b00001#5 0b000#3) ∧ decode (.hcmd 0b00001110#8) = .ok (.reserved 0b00001#5 0b110#3) ∧
    decode (.hcmd 0b11111111#8) = .ok (.reserved 0b11111#5 0b111#3) :=
  ⟨rfl, rfl, rfl⟩

theorem test_decode_poll : decode (.script [.wr 0x00#5 0x06#8, .wait, .wrIfOk 0x00#5 0x07#8]) = .ok .poll ∧
    decode (.script [.wr 0x00#5 0x06#8]) = .error .notAScript :=
  ⟨rfl, rfl⟩

theorem test_decode_wcmd : decode (.wcmd 0b00000001#8) = .ok .wcmdStart ∧ decode (.wcmd 0b01000010#8) = .ok .wcmdPoll ∧
    decode (.wcmd 0b11111111#8) = .ok .wcmdPad ∧ decode (.wcmd 0x43#8) = .error (.notAWireCommand 0x43#8) :=
  ⟨rfl, rfl, rfl, rfl⟩

theorem test_decode_txSeq :
    decode (.txSeq 0 0b00000001#8) = .ok .txSeq0 ∧ decode (.txSeq 1 0b01000010#8) = .ok .txSeq1 ∧
    decode (.txSeq 2 0b11111111#8) = .ok .txSeq2 ∧ decode (.txSeq 3 0b11111111#8) = .ok .txSeq3 ∧
    decode (.txSeq 4 0b11111111#8) = .ok .txSeq4 ∧ decode (.txSeq 5 0b11111111#8) = .ok .txSeq5 ∧
    decode (.txSeq 6 0b11111111#8) = .ok .txSeq6 ∧ decode (.txSeq 7 0b11111111#8) = .ok .txSeq7 ∧
    decode (.txSeq 8 0b11111111#8) = .ok .txSeq8 ∧ decode (.txSeq 1 0x01#8) = .error (.notTheSequenceByte 1 0x01#8) :=
  ⟨rfl, rfl, rfl, rfl, rfl, rfl, rfl, rfl, rfl, rfl⟩

/-- R65's cells of 0x42, first cell first; and seven cells are no byte exchange. -/
theorem test_decode_wbyte :
    decode (.wbyte [false, true, false, false, false, false, true, false]) = .ok (.wbyte 0x42#8) ∧
    decode (.wbyte [true, true, true, true, true, true, true]) = .error (.notEightCells 7) :=
  ⟨rfl, rfl⟩

theorem test_decode_frame :
    decode (.frame 0 0xFF#8) = .ok (.fStart 0xFF#8) ∧ decode (.frame 1 0x73#8) = .ok (.fMode 0x73#8) ∧
    decode (.frame 2 0x5A#8) = .ok (.fCheck 0x5A#8) ∧ decode (.frame 3 0xEF#8) = .ok (.fBtnA 0xEF#8) ∧
    decode (.frame 4 0xBF#8) = .ok (.fBtnB 0xBF#8) ∧ decode (.frame 5 0x1E#8) = .ok (.fRx 0x1E#8) ∧
    decode (.frame 6 0x28#8) = .ok (.fRy 0x28#8) ∧ decode (.frame 7 0x0A#8) = .ok (.fLx 0x0A#8) ∧
    decode (.frame 8 0x14#8) = .ok (.fLy 0x14#8) :=
  ⟨rfl, rfl, rfl, rfl, rfl, rfl, rfl, rfl, rfl⟩

theorem test_decode_mode : decode (.mode Config.digitalModeSentinel) = .ok .modeDigital ∧ decode (.mode modeM) = .ok (.modeAnalog modeM) := by
  simp [decode, modeM_ne]

/-- V1 to V8: in each byte one bit is 0. -/
theorem test_decode_buttonA :
    decode (.button 3 0 0b11111110#8) = .ok .ctlSelect ∧ decode (.button 3 1 0b11111101#8) = .ok .ctlLeftStick ∧
    decode (.button 3 2 0b11111011#8) = .ok .ctlRightStick ∧ decode (.button 3 3 0b11110111#8) = .ok .ctlStart ∧
    decode (.button 3 4 0b11101111#8) = .ok .ctlUp ∧ decode (.button 3 5 0b11011111#8) = .ok .ctlRight ∧
    decode (.button 3 6 0b10111111#8) = .ok .ctlDown ∧ decode (.button 3 7 0b01111111#8) = .ok .ctlLeft ∧
    decode (.button 3 7 0b11111111#8) = .error (.released 3 7) :=
  ⟨rfl, rfl, rfl, rfl, rfl, rfl, rfl, rfl, rfl⟩

/-- V9 to V16. -/
theorem test_decode_buttonB :
    decode (.button 4 0 0b11111110#8) = .ok .ctlL2 ∧ decode (.button 4 1 0b11111101#8) = .ok .ctlR2 ∧
    decode (.button 4 2 0b11111011#8) = .ok .ctlL1 ∧ decode (.button 4 3 0b11110111#8) = .ok .ctlR1 ∧
    decode (.button 4 4 0b11101111#8) = .ok .ctlTriangle ∧ decode (.button 4 5 0b11011111#8) = .ok .ctlCircle ∧
    decode (.button 4 6 0b10111111#8) = .ok .ctlCross ∧ decode (.button 4 7 0b01111111#8) = .ok .ctlSquare ∧
    decode (.button 5 0 0x00#8) = .error (.notAButtonByte 5) :=
  ⟨rfl, rfl, rfl, rfl, rfl, rfl, rfl, rfl, rfl⟩

/-- No bytes, no instruction; several bytes, the first one's instruction and the rest. -/
theorem test_decodeBytes : decodeBytes [] = .error .noByte ∧ decodeBytes [0x06#8, 0x07#8] = .ok (.runTransaction, [0x07#8]) ∧
    decodeTableWord 8 0x07 = some .decode ∧ decodeTableWord 0 0 = none :=
  ⟨rfl, rfl, rfl, rfl⟩

/-! ## Single steps (95_test_vectors) -/

/-- LN1. -/
theorem test_LN1 : look (fun t => (t.clk, t.trace, statusByte t)) (exec .setClock { State.reset with arg := 0x00#8 }) =
    some (false, [.write .clk false], 0x02#8) := by decide

/-- LN3. -/
theorem test_LN3 : look (fun t => (t.sel, t.trace, statusByte t)) (exec .setSelect { State.reset with arg := 0x01#8 }) =
    some (true, [.write .sel true], 0x02#8) := by decide

/-- LN5: only `ARG[0]` counts. -/
theorem test_LN5 : look (fun t => (t.cmd, t.trace)) (exec .setCommand { State.reset with arg := 0xFE#8 }) =
    some (false, [.write .cmd false]) := by decide

/-- LN6, LN7. -/
theorem test_LN6 : look (fun t => (regValue 0x03#5 t, statusByte t)) (exec .readData { State.reset with datIn := [true] }) =
    some (some 0x01#8, 0x02#8) := by decide

theorem test_LN7 : look (fun t => (regValue 0x03#5 t, t.trace)) (exec .readData { State.reset with datIn := [false] }) =
    some (some 0x00#8, [.read .dat false]) := by decide

/-- LN8. -/
theorem test_LN8 : look (fun t => (regValue 0x03#5 t, t.trace)) (exec .readAck { State.reset with ackIn := [true, false] }) =
    some (some 0x01#8, [.read .ack true]) := by decide

/-- LN10. -/
theorem test_LN10 : exec (.reserved 1#5 0#3) State.reset = .next { State.reset with refused := true } := rfl

/-- RF1: no frame. -/
theorem test_RF1 : look (fun t => (statusByte t, sflagsByte t)) (exec .decode State.reset) = some (0x08#8, 0x00#8) := by decide

/-- RF3: a second RUN_TRANSACTION while one runs. -/
theorem test_RF3 : look statusByte (exec .runTransaction (inTxn .bPre 3)) = some 0x09#8 := by decide

/-- RF5: an accepted command clears `REFUSED`. -/
theorem test_RF5 : look statusByte (exec .readData { State.reset with refused := true }) = some 0x02#8 := by decide

/-- P1, line 1. -/
theorem test_runTransaction_starts : look (fun t => (statusByte t, t.frameValid, t.ph))
    (exec .runTransaction (withFrame (frameOf7 0 0 0 0 0 0 0))) = some (0x01#8, false, .tCmdIdle) := by decide

/-- R100's example, the acceptance. -/
theorem test_exchangeByte_starts : look (fun t => (statusByte t, t.txb, t.opRun)) (exec .exchangeByte { State.reset with arg := 0x42#8 }) =
    some (0x01#8, 0x42#8, .xchg) := by decide

/-- P3, line 4: 0xFF is received, `cmd` ends at bit 7 of 0x01; the time is X1's. -/
theorem test_X1 : look (fun t => (t.rxb, t.cmd, t.ph, elapsed t.trace))
    (exec (.wbyte 0x01#8) { State.reset with datIn := wireBits 0xFF#8, ackIn := [false] }) =
    some (0xFF#8, false, .xOk, 160) := by decide

/-- X4: success at poll 4. -/
theorem test_X4 : look (fun t => (t.rxb, t.n, t.trace.length, elapsed t.trace))
    (exec (.wbyte 0x42#8) { State.reset with datIn := [true, true, false, false, true, true, true, false], ackIn := [true, true, true, false] }) =
    some (0x73#8, 4, 55, 175) := by decide

/-- R65's cells of 0x01 and 0x42: the levels written to `CMD`, newest first. -/
theorem test_wcmd_cells :
    look (fun t => t.trace.filterMap fun e => match e with | .write .cmd b => some b | _ => none)
      (exec .wcmdStart { State.reset with datIn := wireBits 0xFF#8 }) = some [false, false, false, false, false, false, false, true] ∧
    look (fun t => t.trace.filterMap fun e => match e with | .write .cmd b => some b | _ => none)
      (exec .wcmdPoll { State.reset with datIn := wireBits 0xFF#8 }) = some [false, true, false, false, false, false, true, false] := by
  decide

/-- PAD holds `CMD` high in all cells, and what the device presents is received bit 0 first. -/
theorem test_wcmdPad : look (fun t => (t.cmd, t.rxb, t.ph)) (exec .wcmdPad { State.reset with datIn := wireBits 0x5A#8 }) =
    some (true, 0x5A#8, .aPoll) := by decide

/-- R126, X_LOAD: the bytes of R65. -/
theorem test_txSeq : look (fun t => (t.txb, t.ph)) (exec .txSeq0 (inTxn .xLoad 0)) = some (0x01#8, .bPre) ∧
    look (fun t => (t.txb, t.ph)) (exec .txSeq1 (inTxn .xLoad 1)) = some (0x42#8, .bPre) ∧
    look (fun t => (t.txb, t.ph)) (exec .txSeq8 (inTxn .xLoad 8)) = some (0xFF#8, .bPre) := by decide

/-- R126, X_OK: `k` = 7 goes on to the ninth exchange, `k` = 8 to the epilogue. -/
theorem test_stores : look (fun t => (t.frame.get 7, t.k, t.ph)) (exec (.fLx 0x0A#8) (inTxn .xOk 7)) = some (0x0A#8, 8, .xLoad) ∧
    look (fun t => (t.frame.get 8, t.k, t.ph)) (exec (.fLy 0x14#8) (inTxn .xOk 8)) = some (0x14#8, 8, .tCmdEnd) := by decide

/-- The frame of V21 as a state to decode. -/
def v21 : State := withFrame (frameOf7 modeM 0x5A#8 0xA5#8 0x01#8 0x02#8 0x03#8 0x04#8)

/-- V21: the axis indices are not in register order. -/
theorem test_V21 : look (fun t => (t.btnA, t.btnB, t.lx, t.ly, t.rx, t.ry, sflagsByte t, statusByte t, t.frameValid)) (exec .decode v21) =
    some (0xA5#8, 0x5A#8, 0x03#8, 0x04#8, 0x01#8, 0x02#8, 0x03#8, 0x02#8, false) := by
  have h : (modeM == Config.digitalModeSentinel) = false := by simp [modeM_ne]
  have hm : (v21.frame.get 1 != Config.digitalModeSentinel) = true := by
    show (!(modeM == Config.digitalModeSentinel)) = true
    rw [h]; rfl
  have ha : (decodeFrame v21.frame).axes = some (frameAxes v21.frame) := by
    simp only [decodeFrame, frameAnalog, hm, if_true]
  have he : exec .decode v21 = .next (finish (consumeFrame (writeAxes (decodeFrame v21.frame).axes (writeButtons v21.frame (accept v21))))) := rfl
  rw [he, ha]
  rfl

/-- V19: digital mode, the axes have no value. -/
def v19 : State := withFrame (frameOf7 Config.digitalModeSentinel 0xEF#8 0xBF#8 0x1E#8 0x28#8 0x0A#8 0x14#8)

theorem test_V19 : look (fun t => (t.btnA, t.btnB, sflagsByte t, regValue 0x0F#5 t, regValue 0x12#5 t)) (exec .decode v19) =
    some (0x10#8, 0x40#8, 0x01#8, none, none) := by
  have hm : frameAnalog v19.frame = false := by
    show (!(Config.digitalModeSentinel == Config.digitalModeSentinel)) = false
    simp
  have ha : (decodeFrame v19.frame).axes = none := by
    simp [decodeFrame, hm]
  have he : exec .decode v19 = .next (finish (consumeFrame (writeAxes (decodeFrame v19.frame).axes (writeButtons v19.frame (accept v19))))) := rfl
  rw [he, ha]
  rfl

/-- V21's flags, one by one: select, right-stick-pressed, right, left are pressed; the others of byte 3 are not. -/
theorem test_buttonA :
    look (fun t => t.btnA) (exec .ctlSelect v21) = some 0x01#8 ∧ look (fun t => t.btnA) (exec .ctlLeftStick v21) = some 0x00#8 ∧
    look (fun t => t.btnA) (exec .ctlRightStick v21) = some 0x04#8 ∧ look (fun t => t.btnA) (exec .ctlStart v21) = some 0x00#8 ∧
    look (fun t => t.btnA) (exec .ctlUp v21) = some 0x00#8 ∧ look (fun t => t.btnA) (exec .ctlRight v21) = some 0x20#8 ∧
    look (fun t => t.btnA) (exec .ctlDown v21) = some 0x00#8 ∧ look (fun t => t.btnA) (exec .ctlLeft v21) = some 0x80#8 := by decide

/-- V21's flags of byte 4: R2, R1, triangle, cross. -/
theorem test_buttonB :
    look (fun t => t.btnB) (exec .ctlL2 v21) = some 0x00#8 ∧ look (fun t => t.btnB) (exec .ctlR2 v21) = some 0x02#8 ∧
    look (fun t => t.btnB) (exec .ctlL1 v21) = some 0x00#8 ∧ look (fun t => t.btnB) (exec .ctlR1 v21) = some 0x08#8 ∧
    look (fun t => t.btnB) (exec .ctlTriangle v21) = some 0x10#8 ∧ look (fun t => t.btnB) (exec .ctlCircle v21) = some 0x00#8 ∧
    look (fun t => t.btnB) (exec .ctlCross v21) = some 0x40#8 ∧ look (fun t => t.btnB) (exec .ctlSquare v21) = some 0x00#8 := by decide

/-- E6, E7: the two modes. -/
theorem test_modes : look (fun t => (t.analog, t.lx, t.ly, t.rx, t.ry)) (exec (.modeAnalog modeM) v21) =
      some (true, 0x03#8, 0x04#8, 0x01#8, 0x02#8) ∧
    look (fun t => (t.analog, regValue 0x0F#5 t)) (exec .modeDigital { v21 with stateValid := true, analog := true }) = some (false, none) := by
  decide

/-- R103: the 50th active sample and its delay, then the error with the index of the exchange. -/
theorem test_timeout : look (fun t => t.ph) (seqStep { inTxn .aWait 4 with n := 50 }) = some .xFail ∧
    look (fun t => t.ph) (seqStep { inTxn .aWait 4 with n := 49 }) = some .aPoll ∧
    look statusByte (seqStep { inTxn .xFail 4 with n := 50 }) = some 0x46#8 := by decide

/-- The host port: STATUS is read, ARG is written, a read-only register is not, a reserved register's read is free. -/
theorem test_hostPort : look (fun t => t.rdData) (step (about (.rd 0x02#5) (inTxn .bPre 0))) = some 0x01#8 ∧
    look (fun t => t.arg) (step (about (.wr 0x01#5 0xAA#8) (inTxn .bPre 0))) = some 0xAA#8 ∧
    look (fun t => t.btnA) (step (about (.wr 0x0D#5 0xAA#8) State.reset)) = some 0x00#8 ∧
    regValue 0x14#5 State.reset = none := by decide

/-- R181: reset in mid-operation. -/
theorem test_reset : look (fun t => (t.sel, t.clk, statusByte t, t.ph)) (step (about .reset { inTxn .bLow 5 with clk := false })) =
    some (false, true, 0x00#8, .idle) := by decide

/-! ## Witnesses for the obligations' hypotheses -/

theorem witness_DecodeOfEncodeIsTheInstruction : (Instr.reserved 31#5 7#3).wellFormed = true ∧ (Instr.wbyte 0xFF#8).wellFormed = true ∧
    (Instr.modeAnalog modeM).wellFormed = true :=
  ⟨rfl, rfl, test_modeAnalog_wellFormed⟩

/-- The last command byte and the first reserved one. -/
theorem witness_EveryCommandByteHasOneRow : (Instr.decode.wellFormed = true ∧ encode .decode = .hcmd 0x07#8) ∧
    ((Instr.reserved 1#5 0#3).wellFormed = true ∧ encode (.reserved 1#5 0#3) = .hcmd 0x08#8) := by
  decide

theorem witness_StepRunsTheCommandWritten : (about (.wr 0x00#5 0x05#8) State.reset).script = .wr 0x00#5 0x05#8 :: [] ∧
    decode (.hcmd 0x05#8) = .ok .exchangeByte :=
  ⟨rfl, rfl⟩

theorem witness_StepRunsTheRowOfTheByte :
    ((inTxn .xLoad 0).script = [] ∧ (inTxn .xLoad 0).opRun = .txn ∧ (inTxn .xLoad 0).ph = .xLoad ∧ decode (.txSeq 0 (Config.txSeq 0)) = .ok .txSeq0) ∧
    ((inTxn .xLoad 8).ph = .xLoad ∧ decode (.txSeq 8 (Config.txSeq 8)) = .ok .txSeq8) ∧
    ((inTxn .xOk 8).script = [] ∧ (inTxn .xOk 8).ph = .xOk ∧ decode (.frame 8 (inTxn .xOk 8).rxb) = .ok (.fLy 0x00#8)) :=
  ⟨⟨rfl, rfl, rfl, rfl⟩, ⟨rfl, rfl⟩, ⟨rfl, rfl, rfl⟩⟩

theorem witness_PollStandsForItsScript : (about .poll State.reset).script = .poll :: [] := rfl

theorem witness_WaitLastsWhileBusy : ((about .wait (inTxn .bPre 0)).script = .wait :: [] ∧ (about .wait (inTxn .bPre 0)).busy = true) ∧
    ((about .wait State.reset).script = .wait :: [] ∧ (about .wait State.reset).busy = false) :=
  ⟨⟨rfl, rfl⟩, ⟨rfl, rfl⟩⟩

theorem witness_LineWritesDriveTheirLatch : State.reset.busy = false ∧ (inXchg .bPre).busy = true ∧ (inTxn .bPre 0).sel = true ∧ State.reset.sel = false :=
  ⟨rfl, rfl, rfl, rfl⟩

theorem witness_LineReadsReturnTheSample : State.reset.busy = false ∧ (inXchg .bPre).busy = true ∧
    ({ State.reset with datIn := [true], ackIn := [false] } : State).datIn = true :: [] ∧
    ({ State.reset with datIn := [true], ackIn := [false] } : State).ackIn = false :: [] :=
  ⟨rfl, rfl, rfl, rfl⟩

/-- Each way to be refused, at the boundary byte, and the three sides of acceptance. -/
theorem witness_CommandsAreAcceptedOrRefused :
    ((inTxn .bPre 0).busy = true) ∧ 8 ≤ (0x08#8 : Byte).toNat ∧ ((0x07#8 : Byte) = 0x07#8 ∧ State.reset.frameValid = false) ∧
    (∀ v ∈ [0x04#8, 0x05#8, 0x06#8], ¬(State.reset.busy = true ∨ 8 ≤ (v : Byte).toNat ∨ (v = 0x07#8 ∧ State.reset.frameValid = false))) ∧
    ¬(v21.busy = true ∨ 8 ≤ (0x07#8 : Byte).toNat ∨ ((0x07#8 : Byte) = 0x07#8 ∧ v21.frameValid = false)) := by
  decide

theorem witness_ManyStepOperationsStart : State.reset.busy = false := rfl

theorem witness_DecodeInAnalogMode : v21.busy = false ∧ v21.frameValid = true ∧ v21.frame.get 1 ≠ Config.digitalModeSentinel :=
  ⟨rfl, rfl, modeM_ne⟩

theorem witness_DecodeInDigitalMode : v19.busy = false ∧ v19.frameValid = true ∧ v19.frame.get 1 = Config.digitalModeSentinel :=
  ⟨rfl, rfl, rfl⟩

theorem witness_DecodedRecordFollowsTheBitTable : (decodeFrame v21.frame).analog = true ∧ (decodeFrame v19.frame).analog = false := by
  constructor
  · show (!(modeM == Config.digitalModeSentinel)) = true
    simp [modeM_ne]
  · show (!(Config.digitalModeSentinel == Config.digitalModeSentinel)) = false
    simp

theorem witness_RoleBytesGoOutBitByBit : ({ State.reset with datIn := wireBits 0x5A#8 } : State).datIn = wireBits 0x5A#8 ++ [] := rfl

/-- Success at the first sample and at the last one allowed. -/
theorem witness_ExchangeReceivesTheDeviceByte : (0 < 50 ∧ ({ State.reset with datIn := wireBits 0x5A#8, ackIn := [false] } : State).datIn = wireBits 0x5A#8 ++ [] ∧
      ({ State.reset with datIn := wireBits 0x5A#8, ackIn := [false] } : State).ackIn = List.replicate 0 true ++ false :: []) ∧
    (49 < 50 ∧ ({ State.reset with datIn := wireBits 0x00#8, ackIn := List.replicate 49 true ++ [false] } : State).ackIn =
      List.replicate 49 true ++ false :: []) :=
  ⟨⟨by decide, rfl, rfl⟩, ⟨by decide, rfl⟩⟩

theorem witness_ExchangeFailsAfterFiftyPolls :
    ({ State.reset with datIn := wireBits 0xFF#8, ackIn := List.replicate 50 true } : State).datIn = wireBits 0xFF#8 ++ [] ∧
    ({ State.reset with datIn := wireBits 0xFF#8, ackIn := List.replicate 50 true } : State).ackIn = List.replicate 50 true ++ [] :=
  ⟨rfl, by simp⟩

/-- The first and the last bit of each button byte, with another bit to keep. -/
theorem witness_ButtonRowsWriteTheirFlag : v21.frameValid = true ∧ v21.busy = false ∧ (7 : Fin 8) ≠ 0 ∧ (0 : Fin 8) ≠ 7 := by decide

theorem witness_ModeRowsWriteAxes : (Instr.modeAnalog modeM).wellFormed = true ∧ v21.frameValid = true ∧ v21.busy = false :=
  ⟨test_modeAnalog_wellFormed, rfl, rfl⟩

theorem witness_DecodeIsTheWorkOfItsRows :
    (v21.busy = false ∧ v21.frameValid = true ∧ decode (.mode (v21.frame.get 1)) = .ok (.modeAnalog modeM)) ∧
    (v19.busy = false ∧ v19.frameValid = true ∧ decode (.mode (v19.frame.get 1)) = .ok .modeDigital) :=
  ⟨⟨rfl, rfl, test_decode_mode.2⟩, ⟨rfl, rfl, test_decode_mode.1⟩⟩

/-- Each of the five completes, accepted, from reset. -/
theorem witness_FrameOfTheLineOperations : ∀ i ∈ [Instr.setClock, .setSelect, .setCommand, .readData, .readAck],
    ∃ t, exec i State.reset = .next t ∧ State.reset.busy = false := by
  intro i hi
  simp only [List.mem_cons, List.not_mem_nil, or_false] at hi
  rcases hi with rfl | rfl | rfl | rfl | rfl <;> exact ⟨_, rfl, rfl⟩

theorem witness_FrameOfTheManyStepOperations : (∃ t, exec .exchangeByte State.reset = .next t) ∧ ∃ t, exec .runTransaction State.reset = .next t :=
  ⟨⟨_, rfl⟩, ⟨_, rfl⟩⟩

theorem witness_FrameOfDecode : ∃ t, exec .decode v21 = .next t := ⟨_, rfl⟩

theorem witness_FrameOfTheWireRows : (∃ t, exec (.wbyte 0x42#8) State.reset = .next t) ∧ (∃ t, exec .txSeq8 (inTxn .xLoad 8) = .next t) ∧
    ∃ t, exec (.fLy 0x14#8) (inTxn .xOk 8) = .next t :=
  ⟨⟨_, rfl⟩, ⟨_, rfl⟩, ⟨_, rfl⟩⟩

theorem witness_NoInstructionWritesArg : ∃ t, exec .setClock State.reset = .next t := ⟨_, rfl⟩

theorem witness_RunningOperationIgnoresArg : ∃ t, seqStep (inTxn .bCmd 1) = .next t := ⟨_, rfl⟩

/-- Every control point, each split at its boundary. -/
theorem witness_EachControlPointTakesItsStep :
    (∀ p ∈ [Phase.idle, .tCmdIdle, .tClkIdle, .tSelOn, .tSetup, .xLoad, .bPre, .bCmd, .bClkLo, .bLow, .bSample, .bClkHi, .aPoll, .aWait, .xOk, .tCmdEnd,
      .tSelOff], (inTxn p 0).ph = p ∧ (inXchg p).ph = p) ∧ (inTxn .xLoad 0).opRun = .txn ∧ (inXchg .xLoad).opRun = .xchg ∧
    ({ inTxn .bClkHi 0 with i := 7 } : State).i = 7 ∧ ({ inTxn .bClkHi 0 with i := 6 } : State).i ≠ 7 ∧
    ackNow { inTxn .aPoll 0 with ackIn := [false] } = false ∧ ackNow { inTxn .aPoll 0 with ackIn := [true] } = true ∧
    ({ inTxn .aWait 0 with n := 50 } : State).n = 50 ∧ ({ inTxn .aWait 0 with n := 49 } : State).n ≠ 50 ∧
    (inTxn .xOk 7).k ≠ 8 ∧ (inTxn .xOk 8).k = 8 := by
  decide

theorem witness_SequencerRunsTheByteExchange : ((inTxn .xLoad 0).script = [] ∧ (inTxn .xLoad 0).ph = .xLoad ∧ (inTxn .xLoad 0).opRun ≠ .none) ∧
    ((inXchg .xLoad).script = [] ∧ (inXchg .xLoad).ph = .xLoad ∧ (inXchg .xLoad).opRun ≠ .none) := by
  decide

theorem witness_ExchangeByteRunsToItsEnd : State.reset.script = [] ∧ State.reset.busy = false := ⟨rfl, rfl⟩

theorem witness_TransactionRunsToItsEnd : State.reset.script = [] ∧ State.reset.busy = false := ⟨rfl, rfl⟩

/-- T3: 49 active polls in every exchange. -/
theorem witness_TransactionReceivesTheFrame :
    ∃ (s : State) (f : Vector Byte 9) (p : Fin 9 → Nat), s.script = [] ∧ s.busy = false ∧ (∀ k, p k < 50) ∧
      s.datIn = frameSamples f (List.finRange 9) ++ [] ∧ s.ackIn = pollSamples p (List.finRange 9) ++ [] :=
  ⟨{ State.reset with datIn := frameSamples v21.frame (List.finRange 9), ackIn := pollSamples (fun _ => 49) (List.finRange 9) }, v21.frame,
    fun _ => 49, rfl, rfl, fun _ => (by decide : 49 < 50), by simp, by simp⟩

/-- T2 and T4: the first and the last exchange fails. -/
theorem witness_TransactionFailsAtItsExchange : ∀ e ∈ [(0 : Fin 9), 8],
    ∃ (s : State) (f : Vector Byte 9) (p : Fin 9 → Nat), s.script = [] ∧ s.busy = false ∧ (∀ k, k < e → p k < 50) ∧
      s.datIn = frameSamples f ((List.finRange 9).take (e.val + 1)) ++ [] ∧
      s.ackIn = pollSamples p ((List.finRange 9).take e.val) ++ List.replicate 50 true ++ [] := by
  intro e _
  exact ⟨{ State.reset with
      datIn := frameSamples v21.frame ((List.finRange 9).take (e.val + 1))
      ackIn := pollSamples (fun _ => 49) ((List.finRange 9).take e.val) ++ List.replicate 50 true }, v21.frame, fun _ => 49,
    rfl, rfl, fun _ _ => (by decide : 49 < 50), by simp, by simp⟩

theorem witness_PollEndsDecodedOrUnchanged : (about .poll State.reset).script = [.poll] ∧ (about .poll State.reset).busy = false := ⟨rfl, rfl⟩

/-- A state that meets the invariants at X_FAIL of exchange 4. -/
def failing : State := { inTxn .xFail 4 with n := 50, trace := (activePolls 50).reverse }

theorem failing_inv : Inv failing where
  busy_iff := by decide
  idle_iff := by decide
  transaction_points := by decide
  frame_valid_no_transaction := by decide
  select_active := by decide
  clock_high := by decide
  clock_low := by decide
  polls_bounded := by decide
  polls_zero := by decide
  polls_left := by decide
  polls_spent := by decide
  err_index_le := by decide
  busy_status := by decide
  err_done := by decide
  err_index_err := by decide
  analog_valid := by decide

theorem failing_polls : PollsTraced failing where
  at_poll := fun h => by cases h
  at_wait := fun h => by cases h
  at_fail := fun _ => ⟨[], by simp [failing]⟩

/-- A state that meets the invariants after the last sample allowed of exchange 4. -/
def lastWait : State :=
  { inTxn .aWait 4 with n := 50, trace := .read .ack true :: (activePolls 49).reverse }

theorem lastWait_inv : Inv lastWait where
  busy_iff := by decide
  idle_iff := by decide
  transaction_points := by decide
  frame_valid_no_transaction := by decide
  select_active := by decide
  clock_high := by decide
  clock_low := by decide
  polls_bounded := by decide
  polls_zero := by decide
  polls_left := by decide
  polls_spent := by decide
  err_index_le := by decide
  busy_status := by decide
  err_done := by decide
  err_index_err := by decide
  analog_valid := by decide

theorem lastWait_polls : PollsTraced lastWait where
  at_poll := fun h => by cases h
  at_wait := fun _ => ⟨49, [], rfl, by simp [lastWait]⟩
  at_fail := fun h => by cases h

/-- A state that meets the invariants in the last step of a transaction. -/
def ending : State := inTxn .tSelOff 8

theorem ending_inv : Inv ending where
  busy_iff := by decide
  idle_iff := by decide
  transaction_points := by decide
  frame_valid_no_transaction := by decide
  select_active := by decide
  clock_high := by decide
  clock_low := by decide
  polls_bounded := by decide
  polls_zero := by decide
  polls_left := by decide
  polls_spent := by decide
  err_index_le := by decide
  busy_status := by decide
  err_done := by decide
  err_index_err := by decide
  analog_valid := by decide

/-- A state that meets the invariants with a frame the host is about to decode. -/
def decoding : State := about (.wr 0x00#5 0x07#8) v21

theorem decoding_inv : Inv decoding where
  busy_iff := by decide
  idle_iff := by decide
  transaction_points := by decide
  frame_valid_no_transaction := by decide
  select_active := by decide
  clock_high := by decide
  clock_low := by decide
  polls_bounded := by decide
  polls_zero := by decide
  polls_left := by decide
  polls_spent := by decide
  err_index_le := by decide
  busy_status := by decide
  err_done := by decide
  err_index_err := by decide
  analog_valid := by decide

theorem witness_EveryOperationEnds : Inv failing ∧ failing.script = [] := ⟨failing_inv, rfl⟩

theorem witness_AckTimeoutEntry : failing.ph = .xFail ∧ failing.opRun = .txn ∧ (inXchg .xFail).ph = .xFail ∧ (inXchg .xFail).opRun = .xchg :=
  ⟨rfl, rfl, rfl, rfl⟩

theorem witness_OnlyFiftyActivePollsRaiseTheError : Inv failing ∧ PollsTraced failing ∧
    ∃ t, step failing = .next t ∧ failing.err = false ∧ t.err = true :=
  ⟨failing_inv, failing_polls, _, rfl, rfl, rfl⟩

/-- The step that ends the wait after its 50th active sample. -/
theorem witness_StepKeepsThePollTrace : Inv lastWait ∧ PollsTraced lastWait ∧ ∃ t, step lastWait = .next t ∧ t.ph = .xFail :=
  ⟨lastWait_inv, lastWait_polls, _, rfl, rfl⟩

theorem witness_NoFatalPath : Inv failing ∧ ∀ a n rest, failing.script ≠ .wide a n :: rest :=
  ⟨failing_inv, fun _ _ _ h => by cases h⟩

theorem witness_WideAccessIsOutside : (about (.wide 0x00#5 2) State.reset).script = .wide 0x00#5 2 :: [] := rfl

theorem witness_StepKeepsTheInvariants : Inv failing ∧ ∃ t, step failing = .next t := ⟨failing_inv, _, rfl⟩

/-- A DECODE and a reset that change the STATE registers. -/
theorem witness_StateRegistersChangeOnlyInDecode : (∃ t, step decoding = .next t ∧ padOf t ≠ padOf decoding) ∧
    ∃ t, step (about .reset { State.reset with stateValid := true }) = .next t ∧
      padOf t ≠ padOf (about .reset { State.reset with stateValid := true }) := by
  constructor
  · refine ⟨_, rfl, fun h => ?_⟩
    have hv : true = false := congrArg (fun p => p.2.2.2.2.2.2.2) h
    cases hv
  · refine ⟨_, rfl, fun h => ?_⟩
    have hv : false = true := congrArg (fun p => p.2.2.2.2.2.2.2) h
    cases hv

/-- Both directions: the last step of a transaction; a DECODE, a RUN_TRANSACTION and a reset that clear it. -/
theorem witness_FrameValidHasOneSource : (Inv ending ∧ ∃ t, step ending = .next t ∧ ending.frameValid = false ∧ t.frameValid = true) ∧
    (Inv decoding ∧ ∃ t, step decoding = .next t ∧ decoding.frameValid = true ∧ t.frameValid = false) ∧
    (∀ l ∈ [HostLine.wr 0x00#5 0x06#8, .wrIfOk 0x00#5 0x06#8, .wrIfOk 0x00#5 0x07#8, .reset],
      ∃ t, step (about l v21) = .next t ∧ (about l v21).frameValid = true ∧ t.frameValid = false) := by
  refine ⟨⟨ending_inv, _, rfl, rfl, rfl⟩, ⟨decoding_inv, _, rfl, rfl, rfl⟩, fun l hl => ?_⟩
  simp only [List.mem_cons, List.not_mem_nil, or_false] at hl
  rcases hl with rfl | rfl | rfl | rfl <;> exact ⟨_, rfl, rfl, rfl⟩

/-- A step that changes each latch. -/
theorem witness_LatchesChangeOnlyByLineWrites : (∃ t, step (inTxn .bClkLo 0) = .next t ∧ t.clk ≠ (inTxn .bClkLo 0).clk) ∧
    (∃ t, step (inTxn .bCmd 0) = .next t ∧ t.cmd ≠ (inTxn .bCmd 0).cmd) ∧ (∃ t, step ending = .next t ∧ t.sel ≠ ending.sel) ∧
    ∀ rest, ending.script ≠ .reset :: rest :=
  ⟨⟨_, rfl, by decide⟩, ⟨_, rfl, by decide⟩, ⟨_, rfl, by decide⟩, fun _ h => by cases h⟩

theorem witness_EachStepEmitsAtMostOneEvent : ∃ t, step ending = .next t := ⟨_, rfl⟩

theorem witness_HostReadsChangeNothing : (about (.rd 0x02#5) State.reset).script = .rd 0x02#5 :: [] ∧
    regValue 0x02#5 (about (.rd 0x02#5) State.reset) = some 0x00#8 := ⟨rfl, by decide⟩

/-- ARG, the first and the last register whose write is ignored. -/
theorem witness_HostWritesOutsideCmd : (∀ a ∈ [0x01#5, 0x02#5, 0x1F#5], (about (.wr a 0xAA#8) State.reset).script = .wr a 0xAA#8 :: []) ∧
    (0x02#5 : RegNo) ≠ 0x00#5 ∧ (0x02#5 : RegNo) ≠ 0x01#5 ∧ (0x1F#5 : RegNo) ≠ 0x00#5 ∧ (0x1F#5 : RegNo) ≠ 0x01#5 := by
  decide

theorem witness_RegistersReadTheirValue :
    (({ State.reset with resultKnown := true } : State).resultKnown = true ∧ ({ State.reset with resultKnown := true } : State).busy = false) ∧
    (v21.frameValid = true ∧ v21.busy = false) ∧ ({ State.reset with stateValid := true, analog := true } : State).stateValid = true ∧
    ({ State.reset with stateValid := true, analog := true } : State).analog = true :=
  ⟨⟨rfl, rfl⟩, ⟨rfl, rfl⟩, rfl, rfl⟩

/-- Each reason a read has no value; the first and the last reserved register. -/
theorem witness_UnspecifiedReadsHaveNoValue : State.reset.resultKnown = false ∧ (inXchg .bPre).busy = true ∧ State.reset.frameValid = false ∧
    State.reset.stateValid = false ∧ State.reset.analog = false ∧ 0x14 ≤ (0x14#5 : RegNo).toNat ∧ 0x14 ≤ (0x1F#5 : RegNo).toNat := by
  decide

theorem witness_ResetLeavesTheTable : (3 ≤ (0x03#5 : RegNo).toNat ∧ (0x03#5 : RegNo).toNat ≤ 0x12) ∧ 3 ≤ (0x12#5 : RegNo).toNat ∧
    (0x12#5 : RegNo).toNat ≤ 0x12 := by
  decide

theorem witness_ResetInputFromAnyState : (about .reset (inTxn .bLow 5)).script = .reset :: [] := rfl

end Sys2Proof.Tests
end

section
/-! PROOFS. The events of one step (00_scope R8): what each operation a step is made of does to the trace, then the whole machine's
step by `step_cases`. -/

namespace Sys2Proof.Machine

/-! ## The trace after the operations a step is made of -/

@[simp] theorem sampleBit_trace (s : State) : (sampleBit s).trace = .read .dat (datNow s) :: s.trace := rfl

@[simp] theorem pollAck_trace (s : State) : (pollAck s).trace = .read .ack (ackNow s) :: s.trace := rfl

@[simp] theorem loadExchange_trace (out : Byte) (s : State) : (loadExchange out s).trace = s.trace := rfl

@[simp] theorem storeReceived_trace (k : Fin Config.frameLen) (v : Byte) (s : State) : (storeReceived k v s).trace = s.trace := by
  obtain ⟨k', ph', h⟩ := storeReceived_eq k v s
  rw [h]

@[simp] theorem raiseAckTimeout_trace (s : State) : (raiseAckTimeout s).trace = s.trace := rfl

@[simp] theorem stepBClkHi_trace (s : State) : (stepBClkHi s).trace = .write .clk true :: s.trace := by
  unfold stepBClkHi
  split <;> rfl

@[simp] theorem stepAPoll_trace (s : State) : (stepAPoll s).trace = .read .ack (ackNow s) :: s.trace := rfl

@[simp] theorem stepAWait_trace (s : State) : (stepAWait s).trace = .delay Config.tHalf :: s.trace := rfl

@[simp] theorem writeAxes_trace (axes : Option Axes) (s : State) : (writeAxes axes s).trace = s.trace := by
  cases axes <;> rfl

/-! ## At most one event -/

/-- The trace of `t` is that of `s` with at most one event more (R8). -/
def AddsAtMostOneEvent (s t : State) : Prop :=
  t.trace = s.trace ∨ ∃ e, t.trace = e :: s.trace

/-- At each control point the sequencer emits its row's event of R126, or none where the row only moves the position or ends the operation. -/
theorem seqNext_addsAtMostOneEvent (s : State) : AddsAtMostOneEvent s (seqNext s) := by
  cases hp : s.ph <;> simp only [seqNext, hp]
  case idle => exact .inl rfl
  case xLoad => exact .inl (loadExchange_trace _ s)
  case xOk =>
    refine .inl ?_
    split
    · exact storeReceived_trace s.k s.rxb s
    · simp
  case xFail => exact .inl (raiseAckTimeout_trace s)
  case tCmdIdle | tClkIdle | tSelOn | bCmd | bClkLo | tCmdEnd => exact .inr ⟨_, lineWrite_trace _ _ s⟩
  case tSelOff => exact .inr ⟨_, lineWrite_trace .sel false s⟩
  case tSetup | bPre | bLow => exact .inr ⟨_, delay_trace _ s⟩
  case bSample => exact .inr ⟨_, sampleBit_trace s⟩
  case bClkHi => exact .inr ⟨_, stepBClkHi_trace s⟩
  case aPoll => exact .inr ⟨_, stepAPoll_trace s⟩
  case aWait => exact .inr ⟨_, stepAWait_trace s⟩

theorem refuse_addsAtMostOneEvent (s : State) : AddsAtMostOneEvent s (refuse s) :=
  .inl (refuse_trace s)

/-- A command word is refused without an event, or adds what its acceptance adds (R61). -/
theorem hostCommand_addsAtMostOneEvent {s accepted t : State} (h : hostCommand s accepted = .next t)
    (ha : AddsAtMostOneEvent s accepted) : AddsAtMostOneEvent s t := by
  injection h with h
  subst h
  split
  · exact refuse_addsAtMostOneEvent s
  · exact ha

/-- DECODE works on the registers alone (R140). -/
theorem execDecode_addsAtMostOneEvent {s t : State} (h : execDecode s = .next t) : AddsAtMostOneEvent s t := by
  injection h with h
  subst h
  split
  · exact refuse_addsAtMostOneEvent s
  · exact .inl (by simp [consumeFrame, writeButtons])

/-- A byte written to CMD emits the one event of a line operation, or none (R90, R100, R120, R140, R161). -/
theorem exec_decodeHcmd_addsAtMostOneEvent {v : Byte} {s t : State} (h : exec (decodeHcmd v) s = .next t) :
    AddsAtMostOneEvent s t := by
  rcases decodeHcmd_cases v with ⟨-, rsv, op, hd⟩ | ⟨-, hd⟩ | ⟨-, hd⟩ | ⟨-, hd⟩ | ⟨-, hd⟩ | ⟨-, hd⟩ | ⟨-, hd⟩ | ⟨-, hd⟩ | ⟨-, hd⟩ <;>
    rw [hd] at h
  case inl =>
    injection h with h
    exact h ▸ refuse_addsAtMostOneEvent s
  · exact hostCommand_addsAtMostOneEvent h (.inr ⟨.write .clk (argBit s), rfl⟩)
  · exact hostCommand_addsAtMostOneEvent h (.inr ⟨.write .sel (argBit s), rfl⟩)
  · exact hostCommand_addsAtMostOneEvent h (.inr ⟨.write .cmd (argBit s), rfl⟩)
  · exact hostCommand_addsAtMostOneEvent h (.inr ⟨.read .dat (datNow s), rfl⟩)
  · exact hostCommand_addsAtMostOneEvent h (.inr ⟨.read .ack (ackNow s), rfl⟩)
  · exact hostCommand_addsAtMostOneEvent h (.inl rfl)
  · exact hostCommand_addsAtMostOneEvent h (.inl rfl)
  · exact execDecode_addsAtMostOneEvent h

/-- Settles O52, by the five shapes of a step: the outside's bookkeeping, a write to `ARG` and reset leave the trace; a command and the
sequencer's turn add at most one event to it. -/
theorem eachStepEmitsAtMostOneEvent : Obligations.EachStepEmitsAtMostOneEvent := by
  intro s t h
  obtain ⟨script, rd, free, rfl | ⟨v, rfl⟩ | ⟨v, -, hexec⟩ | hseq | ⟨-, rfl⟩⟩ := step_cases h
  · exact .inl rfl
  · exact .inl rfl
  · have hone := exec_decodeHcmd_addsAtMostOneEvent hexec
    exact hone
  · obtain ⟨rfl, -⟩ := seqStep_inv hseq
    exact seqNext_addsAtMostOneEvent _
  · exact .inl rfl

end Sys2Proof.Machine
end

section
/-! PROOFS. The host registers (10_state R18 to R27): what each register reads as, the STATUS and SFLAGS fields bit by bit, and the
host's writes outside CMD. -/

namespace Sys2Proof.Machine

/-! ## The value of each register -/

@[simp] theorem regValue_cmd (s : State) : regValue 0x00#5 s = some 0x00#8 := rfl

@[simp] theorem regValue_arg (s : State) : regValue 0x01#5 s = some s.arg := rfl

@[simp] theorem regValue_status (s : State) : regValue 0x02#5 s = some (statusByte s) := rfl

@[simp] theorem regValue_result (s : State) :
    regValue 0x03#5 s = if s.resultKnown && !s.busy then some s.result else none := rfl

@[simp] theorem regValue_frame (k : Fin Config.frameLen) (s : State) :
    regValue (BitVec.ofNat 5 (4 + k.val)) s = if frameReadable s then some (s.frame.get k) else none := by
  fin_cases k <;> rfl

@[simp] theorem regValue_btnA (s : State) : regValue 0x0D#5 s = if s.stateValid then some s.btnA else none := rfl

@[simp] theorem regValue_btnB (s : State) : regValue 0x0E#5 s = if s.stateValid then some s.btnB else none := rfl

@[simp] theorem regValue_lx (s : State) : regValue 0x0F#5 s = if s.analog then some s.lx else none := rfl

@[simp] theorem regValue_ly (s : State) : regValue 0x10#5 s = if s.analog then some s.ly else none := rfl

@[simp] theorem regValue_rx (s : State) : regValue 0x11#5 s = if s.analog then some s.rx else none := rfl

@[simp] theorem regValue_ry (s : State) : regValue 0x12#5 s = if s.analog then some s.ry else none := rfl

@[simp] theorem regValue_sflags (s : State) : regValue 0x13#5 s = some (sflagsByte s) := rfl

theorem ne_ofNat_of_lt_toNat {a : RegNo} {n : Nat} (h : n < a.toNat) : a ≠ BitVec.ofNat 5 n := by
  rintro rfl
  have := Nat.mod_le n (2 ^ 5)
  rw [BitVec.toNat_ofNat] at h
  omega

/-- R27: no register is implemented above SFLAGS. -/
theorem regValue_unimplemented {a : RegNo} (h : 0x14 ≤ a.toNat) (s : State) : regValue a s = none := by
  have hne : ∀ n < 0x14, a ≠ BitVec.ofNat 5 n := fun n hn => ne_ofNat_of_lt_toNat (by omega)
  unfold regValue
  rw [if_neg (hne 0 (by decide)), if_neg (hne 1 (by decide)), if_neg (hne 2 (by decide)), if_neg (hne 3 (by decide)),
    dif_neg (by omega), if_neg (hne 0x0D (by decide)), if_neg (hne 0x0E (by decide)), if_neg (hne 0x0F (by decide)),
    if_neg (hne 0x10 (by decide)), if_neg (hne 0x11 (by decide)), if_neg (hne 0x12 (by decide)), if_neg (hne 0x13 (by decide))]

/-- R14, R21, R25: with no result, no frame and no decoded state, the registers from RESULT to RY read as nothing. -/
theorem regValue_of_no_data {a : RegNo} {s : State} (hlo : 3 ≤ a.toNat) (hhi : a.toNat ≤ 0x12) (hr : s.resultKnown = false)
    (hf : s.frameValid = false) (hv : s.stateValid = false) (ha : s.analog = false) : regValue a s = none := by
  have hsflags : a ≠ 0x13#5 := by
    rintro rfl
    contradiction
  have hlow : ∀ n < 3, a ≠ BitVec.ofNat 5 n := fun n hn => ne_ofNat_of_lt_toNat (by omega)
  unfold regValue
  rw [if_neg (hlow 0 (by decide)), if_neg (hlow 1 (by decide)), if_neg (hlow 2 (by decide)), if_neg hsflags]
  simp [frameReadable, hr, hf, hv, ha]

/-! ## STATUS and SFLAGS bit by bit -/

/-- One bit after `n` others: bit 0 is that bit, the others are one place further up. -/
theorem getLsbD_append_ofBool {n : Nat} (x : BitVec n) (b : Bool) (i : Nat) :
    (x ++ BitVec.ofBool b).getLsbD i = if i = 0 then b else x.getLsbD (i - 1) := by
  rw [BitVec.getLsbD_append]
  cases i <;> simp

/-- R20. -/
theorem statusByte_getLsbD (s : State) (i : Nat) : (statusByte s).getLsbD i =
    if i = 0 then s.busy else if i = 1 then s.done else if i = 2 then s.err else if i = 3 then s.refused
    else s.errIndex.getLsbD (i - 4) := by
  change (s.errIndex ++ BitVec.ofBool s.refused ++ BitVec.ofBool s.err ++ BitVec.ofBool s.done ++ BitVec.ofBool s.busy).getLsbD i = _
  simp only [getLsbD_append_ofBool]
  rcases i with _ | _ | _ | _ | i <;> simp

/-- R26. -/
theorem sflagsByte_getLsbD (s : State) (i : Nat) : (sflagsByte s).getLsbD i =
    if i = 0 then s.stateValid else if i = 1 then s.analog else false := by
  change (0#6 ++ BitVec.ofBool s.analog ++ BitVec.ofBool s.stateValid).getLsbD i = _
  simp only [getLsbD_append_ofBool]
  rcases i with _ | _ | i <;> simp

theorem statusByte_errIndex (s : State) : (statusByte s).extractLsb' 4 4 = s.errIndex := by
  refine BitVec.eq_of_getLsbD_eq fun j hj => ?_
  rw [BitVec.getLsbD_extractLsb', statusByte_getLsbD]
  simp [hj, show 4 + j ≠ 1 ∧ 4 + j ≠ 2 ∧ 4 + j ≠ 3 by omega]

theorem sflagsByte_upper (s : State) : (sflagsByte s).extractLsb' 2 6 = 0#6 := by
  refine BitVec.eq_of_getLsbD_eq fun j hj => ?_
  rw [BitVec.getLsbD_extractLsb', sflagsByte_getLsbD]
  simp [show 2 + j ≠ 1 by omega]

/-- Settles O55, register by register. -/
theorem registersReadTheirValue : Obligations.RegistersReadTheirValue := by
  intro s
  have hstatus := statusByte_getLsbD s
  have hsflags := sflagsByte_getLsbD s
  refine ⟨regValue_cmd s, regValue_arg s,
    ⟨_, regValue_status s, hstatus 0, hstatus 1, hstatus 2, hstatus 3, statusByte_errIndex s⟩, ?_, ?_, ?_, ?_,
    ⟨_, regValue_sflags s, hsflags 0, hsflags 1, sflagsByte_upper s⟩⟩
  · intro hr hb
    simp [hr, hb]
  · intro hf hb k
    rw [regValue_frame, if_pos (by simp [frameReadable, hf, hb])]
  · intro hv
    simp [hv]
  · intro ha
    simp [ha]

/-- Settles O56: each group of registers has no value without its valid bit, RESULT and the frame none while `BUSY` = 1 either. -/
theorem unspecifiedReadsHaveNoValue : Obligations.UnspecifiedReadsHaveNoValue := by
  intro s
  refine ⟨?_, ?_, ?_, ?_, fun a ha => regValue_unimplemented ha s⟩
  · rintro (hr | hb) <;> simp [*]
  · intro h k
    have hunreadable : ¬ frameReadable s := by
      rcases h with hf | hb <;> simp [frameReadable, *]
    rw [regValue_frame, if_neg hunreadable]
  · intro hv
    simp [hv]
  · intro ha
    simp [ha]

/-- Settles O57: the fields by R31's table, the reads by `regValue_of_no_data`. -/
theorem resetLeavesTheTable : Obligations.ResetLeavesTheTable :=
  ⟨rfl, rfl, rfl, rfl, rfl, rfl, rfl, rfl, rfl, fun _ hlo hhi => regValue_of_no_data hlo hhi rfl rfl rfl rfl⟩

/-- Settles O54, by the two cases of `writeReg`. -/
theorem hostWritesOutsideCmd : Obligations.HostWritesOutsideCmd := by
  intro s a v rest hs
  have hstep : a ≠ cmdReg → step s = .next (writeReg a v { s with script := rest }) := by
    intro ha
    simp [step, hs, runLine, hostWrite, ha]
  refine ⟨?_, ?_⟩
  · rintro rfl
    rw [hstep (by decide), writeReg_arg]
  · intro hcmd harg
    rw [hstep hcmd, writeReg_other v _ harg]

end Sys2Proof.Machine
end

section
/-! PROOFS. What a byte written to CMD does (30_encoding R61, R62): each command's meaning as a refusal or one accepted state, then the
inversion of all of them; and the rows that store a received byte (R67). -/

namespace Sys2Proof.Machine

/-! ## The accepted states -/

/-- The state an accepted EXCHANGE_BYTE leads to (R100). -/
def startExchange (s : State) : State :=
  { accept s with busy := true, opRun := .xchg, txb := argByte s, ph := .xLoad }

/-- The state an accepted RUN_TRANSACTION leads to (R120). -/
def startTransaction (s : State) : State :=
  { accept s with busy := true, opRun := .txn, frameValid := false, ph := .tCmdIdle }

/-- The state an accepted DECODE leads to (R140). -/
def decoded (s : State) : State :=
  finish (consumeFrame (writeAxes (decodeFrame s.frame).axes (writeButtons s.frame (accept s))))

/-- Everything the mode and the axes are written with but for the values of the axes (R144, R145). -/
theorem writeAxes_eq (axes : Option Axes) (s : State) : ∃ lx ly rx ry free, writeAxes axes s =
    { s with analog := axes.isSome, lx := lx, ly := ly, rx := rx, ry := ry, freeCtr := free } := by
  cases axes with
  | some a => exact ⟨a.leftX, a.leftY, a.rightX, a.rightY, s.freeCtr, rfl⟩
  | none => exact ⟨_, _, _, _, _, rfl⟩

/-- Everything an accepted DECODE does but for the values of the axes (R140). -/
theorem decoded_eq (s : State) : ∃ lx ly rx ry free, decoded s = { s with
    btnA := ~~~(s.frame.get 3), btnB := ~~~(s.frame.get 4), lx := lx, ly := ly, rx := rx, ry := ry, freeCtr := free
    analog := (decodeFrame s.frame).axes.isSome, stateValid := true, frameValid := false
    done := true, err := false, refused := false, errIndex := 0#4 } := by
  obtain ⟨lx, ly, rx, ry, free, h⟩ := writeAxes_eq (decodeFrame s.frame).axes (writeButtons s.frame (accept s))
  exact ⟨lx, ly, rx, ry, free, by rw [decoded, h]; rfl⟩

@[simp] theorem decoded_busy (s : State) : (decoded s).busy = s.busy := by
  obtain ⟨lx, ly, rx, ry, free, h⟩ := decoded_eq s
  rw [h]

theorem exec_exchangeByte (s : State) : exec .exchangeByte s = hostCommand s (startExchange s) := rfl

theorem exec_runTransaction (s : State) : exec .runTransaction s = hostCommand s (startTransaction s) := rfl

theorem exec_decode (s : State) :
    exec .decode s = .next (if s.busy || !s.frameValid then refuse s else decoded s) := rfl

theorem exec_decode_accepted {s : State} (hb : s.busy = false) (hf : s.frameValid = true) : exec .decode s = .next (decoded s) := by
  simp [exec_decode, hb, hf]

theorem hostCommand_idle {s : State} (hb : s.busy = false) (accepted : State) : hostCommand s accepted = .next accepted := by
  simp [hostCommand, hb]

theorem hostCommand_inv {s accepted t : State} (h : hostCommand s accepted = .next t) :
    t = refuse s ∨ (s.busy = false ∧ t = accepted) := by
  cases hb : s.busy <;> simp [hostCommand, hb] at h <;> simp [h]

/-! ## Every command word -/

/-- What an accepted command word can lead to: a line written, a line sampled into RESULT, or one of the three larger commands, each with
its own word (R62). -/
inductive Accepted (v : Byte) (s : State) : State → Prop where
  | lineWritten (l : OutLine) : Accepted v s (finish (lineWrite l (argBit s) (accept s)))
  | datSampled : Accepted v s (finish (setResult (zextBit (datNow s)) (readDat (accept s))))
  | ackSampled : Accepted v s (finish (setResult (zextBit (ackNow s)) (readAck (accept s))))
  | exchangeStarted (hv : v = 0x05#8) : Accepted v s (startExchange s)
  | transactionStarted (hv : v = 0x06#8) : Accepted v s (startTransaction s)
  | frameDecoded (hv : v = 0x07#8) (hf : s.frameValid = true) : Accepted v s (decoded s)

theorem accepted_of_hostCommand {v : Byte} {s accepted t : State} (h : hostCommand s accepted = .next t)
    (ha : Accepted v s accepted) : t = refuse s ∨ (s.busy = false ∧ Accepted v s t) := by
  obtain hr | ⟨hb, rfl⟩ := hostCommand_inv h
  · exact .inl hr
  · exact .inr ⟨hb, ha⟩

/-- A command word is refused, or accepted while `BUSY` = 0 (R61). -/
theorem command_cases {v : Byte} {s t : State} (h : exec (decodeHcmd v) s = .next t) :
    t = refuse s ∨ (s.busy = false ∧ Accepted v s t) := by
  obtain ⟨-, rsv, op, hd⟩ | ⟨-, hd⟩ | ⟨-, hd⟩ | ⟨-, hd⟩ | ⟨-, hd⟩ | ⟨-, hd⟩ | ⟨hv, hd⟩ | ⟨hv, hd⟩ | ⟨hv, hd⟩ :=
    decodeHcmd_cases v <;>
    rw [hd] at h
  · injection h with h
    exact .inl h.symm
  · exact accepted_of_hostCommand h (.lineWritten .clk)
  · exact accepted_of_hostCommand h (.lineWritten .sel)
  · exact accepted_of_hostCommand h (.lineWritten .cmd)
  · exact accepted_of_hostCommand h .datSampled
  · exact accepted_of_hostCommand h .ackSampled
  · exact accepted_of_hostCommand h (.exchangeStarted hv)
  · exact accepted_of_hostCommand h (.transactionStarted hv)
  · rw [exec_decode] at h
    injection h with h
    cases hb : s.busy <;> cases hf : s.frameValid <;> simp only [hb, hf] at h
    case false.true => exact .inr ⟨rfl, h ▸ .frameDecoded hv hf⟩
    all_goals exact .inl h.symm

/-! ## The many-step operations and DECODE -/

/-- Settles O13: with `BUSY` = 0 both are accepted. -/
theorem manyStepOperationsStart : Obligations.ManyStepOperationsStart := by
  intro s hb
  rw [exec_exchangeByte, exec_runTransaction, hostCommand_idle hb, hostCommand_idle hb]
  exact ⟨rfl, rfl⟩

theorem decodeFrame_axes_analog {f : Vector Byte Config.frameLen} (h : f.get 1 ≠ Config.digitalModeSentinel) :
    (decodeFrame f).axes = some (frameAxes f) := by
  simp [decodeFrame, frameAnalog, h]

theorem decodeFrame_axes_digital {f : Vector Byte Config.frameLen} (h : f.get 1 = Config.digitalModeSentinel) :
    (decodeFrame f).axes = none := by
  simp [decodeFrame, frameAnalog, h]

/-- Settles O14: the axes of the record are the four copies. -/
theorem decodeInAnalogMode : Obligations.DecodeInAnalogMode := by
  intro s hb hf hmode
  rw [exec_decode_accepted hb hf]
  simp only [decoded, decodeFrame_axes_analog hmode, finish, consumeFrame, writeAxes, frameAxes, writeButtons, accept]

/-- Settles O15: the record has no axes, and `ANALOG` = 0 hides what the axis registers hold. -/
theorem decodeInDigitalMode : Obligations.DecodeInDigitalMode := by
  intro s hb hf hmode
  refine ⟨_, exec_decode_accepted hb hf, ?_⟩
  obtain ⟨lx, ly, rx, ry, free, h⟩ := decoded_eq s
  rw [decodeFrame_axes_digital hmode] at h
  rw [h]
  exact ⟨rfl, rfl, rfl, rfl, rfl⟩

/-! ## The rows of a received byte -/

theorem storeReceived_of_lt {k : Fin Config.frameLen} (h : k.val + 1 < Config.frameLen) (v : Byte) (s : State) :
    storeReceived k v s = { s with frame := s.frame.set k v, k := ⟨k.val + 1, h⟩, ph := .xLoad } :=
  dif_pos h

theorem storeReceived_last (v : Byte) (s : State) :
    storeReceived 8 v s = { s with frame := s.frame.set 8 v, ph := .tCmdEnd } :=
  rfl

theorem exec_frameRow_of_lt {k : Fin Config.frameLen} (h : k.val + 1 < Config.frameLen) (v : Byte) (s : State) :
    exec (frameRow k v) s = .next { s with frame := s.frame.set k v, k := ⟨k.val + 1, h⟩, ph := .xLoad } := by
  rw [exec_frameRow, storeReceived_of_lt h]

/-- Settles O19: the row of exchange `k` stores its byte, and the ninth goes on to the epilogue. -/
theorem receivedBytesAreStored : Obligations.ReceivedBytesAreStored := by
  intro s v
  have hrow (k : Fin Config.frameLen) (h : k.val + 1 < Config.frameLen) := exec_frameRow_of_lt h v s
  have hlast : exec (frameRow 8 v) s = .next { s with frame := s.frame.set 8 v, ph := .tCmdEnd } := by
    rw [exec_frameRow, storeReceived_last]
  exact ⟨hrow 0 (by decide), hrow 1 (by decide), hrow 2 (by decide), hrow 3 (by decide), hrow 4 (by decide), hrow 5 (by decide),
    hrow 6 (by decide), hrow 7 (by decide), hlast⟩

end Sys2Proof.Machine
end

section
/-! PROOFS. What no step does (10_state R14, R19, R30): which steps write `ARG`, the STATE registers, `frame_valid` and the output
latches. For each of them, what the sequencer's step and an accepted command do to it, then the whole machine's step by `step_cases`. -/

namespace Sys2Proof.Machine

/-! ## The sequencer's steps with a choice -/

/-- After a bit cell the position moves on (R126). -/
theorem stepBClkHi_eq (s : State) : ∃ i' ph', stepBClkHi s = { lineWrite .clk true s with i := i', ph := ph' } := by
  unfold stepBClkHi
  split
  · exact ⟨_, _, rfl⟩
  · exact ⟨s.i, _, rfl⟩

/-! ## ARG -/

/-- Where the outcome is a next state, `ARG` is there what it was in `s` (R19). -/
def OutcomeKeepsArg (s : State) (o : Host.Outcome State Fault Refusal) : Prop :=
  ∀ t, o = .next t → t.arg = s.arg

theorem outcomeKeepsArg_next {s t : State} (h : t.arg = s.arg) : OutcomeKeepsArg s (.next t) := by
  intro u hu
  injection hu with hu
  exact hu ▸ h

theorem hostCommand_keepsArg {s accepted : State} (h : accepted.arg = s.arg) : OutcomeKeepsArg s (hostCommand s accepted) := by
  apply outcomeKeepsArg_next
  split
  · exact refuse_arg s
  · exact h

@[simp] theorem writeAxes_arg (axes : Option Axes) (s : State) : (writeAxes axes s).arg = s.arg := by
  cases axes <;> rfl

@[simp] theorem afterFrameView_arg (s : State) : (afterFrameView s).arg = s.arg := by
  obtain ⟨free, h⟩ := afterFrameView_eq s
  rw [h]

@[simp] theorem storeReceived_arg (k : Fin Config.frameLen) (v : Byte) (s : State) : (storeReceived k v s).arg = s.arg := by
  obtain ⟨k', ph', h⟩ := storeReceived_eq k v s
  rw [h]

theorem ExchangeKeeps.arg {s t : State} (h : ExchangeKeeps s t) : t.arg = s.arg :=
  congrArg Prod.fst h.2.1

theorem sendByte_arg (out : Byte) (s : State) : (sendByte out s).arg = s.arg :=
  (byteCells_keeps (loadByte out s)).arg

theorem decoded_arg (s : State) : (decoded s).arg = s.arg :=
  writeAxes_arg _ _

theorem execDecode_keepsArg (s : State) : OutcomeKeepsArg s (exec .decode s) := by
  rw [exec_decode]
  apply outcomeKeepsArg_next
  split
  · exact refuse_arg s
  · exact decoded_arg s

/-- Settles O32, by the groups of rows of the opcode table: the commands, POLL, the rows that send, the rows that receive, the mode, the
buttons. -/
theorem noInstructionWritesArg : Obligations.NoInstructionWritesArg := by
  intro i s
  change OutcomeKeepsArg s (exec i s)
  cases i
  case setClock | setSelect | setCommand => exact hostCommand_keepsArg (lineWrite_arg _ _ _)
  case readData | readAck | exchangeByte | runTransaction => exact hostCommand_keepsArg rfl
  case decode => exact execDecode_keepsArg s
  case reserved | poll => exact outcomeKeepsArg_next rfl
  case wcmdStart | wcmdPoll | wcmdPad => exact outcomeKeepsArg_next (sendByte_arg _ s)
  case wbyte out => exact outcomeKeepsArg_next (exchangeByte_keeps out s).arg
  case txSeq0 | txSeq1 | txSeq2 | txSeq3 | txSeq4 | txSeq5 | txSeq6 | txSeq7 | txSeq8 => exact outcomeKeepsArg_next rfl
  case fStart | fMode | fCheck | fBtnA | fBtnB | fRx | fRy | fLx | fLy => exact outcomeKeepsArg_next (storeReceived_arg _ _ s)
  case modeDigital => exact outcomeKeepsArg_next (writeAxes_arg none s)
  case modeAnalog => exact outcomeKeepsArg_next ((writeAxes_arg _ _).trans (afterFrameView_arg s))
  all_goals exact outcomeKeepsArg_next (afterFrameView_arg s)

/-- The sequencer does not look at `ARG`: R126 names it at no control point. -/
theorem seqNext_arg (s : State) (a : Byte) : seqNext { s with arg := a } = { seqNext s with arg := a } := by
  cases hp : s.ph <;> simp only [seqNext, hp]
  case bClkHi => unfold stepBClkHi; split <;> rfl
  case xOk =>
    split
    · unfold storeReceived; split <;> rfl
    · rfl
  all_goals rfl

/-- Settles O33: `ARG` passes through the one function that is the sequencer's step. -/
theorem runningOperationIgnoresArg : Obligations.RunningOperationIgnoresArg := by
  intro s t a h
  obtain ⟨rfl, hx⟩ := seqStep_inv h
  rw [seqStep_next (s := { s with arg := a }) hx, seqNext_arg]

/-! ## The STATE registers -/

@[simp] theorem storeReceived_padOf (k : Fin Config.frameLen) (v : Byte) (s : State) : padOf (storeReceived k v s) = padOf s := by
  obtain ⟨k', ph', h⟩ := storeReceived_eq k v s
  rw [h]
  rfl

theorem lineWrite_padOf (l : OutLine) (b : Bool) (s : State) : padOf (lineWrite l b s) = padOf s := by
  cases l <;> rfl

/-- The sequencer writes no STATE register (R127). -/
theorem seqNext_padOf (s : State) : padOf (seqNext s) = padOf s := by
  cases hp : s.ph <;> simp only [seqNext, hp]
  case bClkHi =>
    obtain ⟨i', ph', h⟩ := stepBClkHi_eq s
    rw [h]
    rfl
  case xOk =>
    split
    · exact storeReceived_padOf s.k s.rxb s
    · rfl
  all_goals rfl

/-- Of the commands only an accepted DECODE writes the STATE registers (R90, R100, R120, R140). -/
theorem command_padOf {v : Byte} {s t : State} (h : exec (decodeHcmd v) s = .next t) (hpad : padOf t ≠ padOf s) :
    v = 0x07#8 ∧ s.busy = false ∧ s.frameValid = true := by
  obtain rfl | ⟨hb, hacc⟩ := command_cases h
  · exact absurd rfl hpad
  cases hacc with
  | frameDecoded hv hf => exact ⟨hv, hb, hf⟩
  | lineWritten l => exact absurd (lineWrite_padOf l _ _) hpad
  | datSampled | ackSampled | exchangeStarted | transactionStarted => exact absurd rfl hpad

/-- Settles O49, by the shapes of a step: of the commands only DECODE writes the STATE registers, and the sequencer writes none. -/
theorem stateRegistersChangeOnlyInDecode : Obligations.StateRegistersChangeOnlyInDecode := by
  intro s t h hpad
  obtain ⟨script, rd, free, rfl | ⟨v, rfl⟩ | ⟨v, hline, hexec⟩ | hseq | ⟨hreset, -⟩⟩ := step_cases h
  · exact absurd rfl hpad
  · exact absurd rfl hpad
  · obtain ⟨rfl, hb, hf⟩ := command_padOf hexec hpad
    exact .inr ⟨hb, hf, hline⟩
  · obtain ⟨rfl, -⟩ := seqStep_inv hseq
    exact absurd (seqNext_padOf _) hpad
  · exact .inl hreset

/-! ## frame_valid -/

@[simp] theorem storeReceived_frameValid (k : Fin Config.frameLen) (v : Byte) (s : State) :
    (storeReceived k v s).frameValid = s.frameValid := by
  obtain ⟨k', ph', h⟩ := storeReceived_eq k v s
  rw [h]

@[simp] theorem stepBClkHi_frameValid (s : State) : (stepBClkHi s).frameValid = s.frameValid := by
  obtain ⟨i', ph', h⟩ := stepBClkHi_eq s
  rw [h, lineWrite_frameValid]

/-- The sequencer writes `frame_valid` in the last step of a transaction only (R14, R126). -/
theorem seqNext_frameValid (s : State) : (seqNext s).frameValid = (s.frameValid || s.ph == .tSelOff) := by
  cases hp : s.ph <;> simp only [seqNext, hp]
  case tSelOff => simp
  case bClkHi => simp
  case xOk => split <;> simp
  all_goals exact (Bool.or_false s.frameValid).symm

/-- Of the commands only the acceptance of RUN_TRANSACTION and DECODE write `frame_valid`, and both clear it (R14). -/
theorem command_frameValid {v : Byte} {s t : State} (h : exec (decodeHcmd v) s = .next t) (hne : t.frameValid ≠ s.frameValid) :
    t.frameValid = false ∧ s.busy = false ∧
      ((v = 0x06#8 ∧ t.busy = true ∧ t.opRun = .txn) ∨ (v = 0x07#8 ∧ t.busy = false ∧ t.done = true ∧ t.stateValid = true)) := by
  obtain rfl | ⟨hb, hacc⟩ := command_cases h
  · exact absurd rfl hne
  cases hacc with
  | transactionStarted hv => exact ⟨rfl, hb, .inl ⟨hv, rfl, rfl⟩⟩
  | frameDecoded hv => exact ⟨rfl, hb, .inr ⟨hv, (decoded_busy s).trans hb, rfl, rfl⟩⟩
  | lineWritten l => exact absurd (lineWrite_frameValid l _ _) hne
  | datSampled | ackSampled | exchangeStarted => exact absurd rfl hne

/-- Settles O50: the sequencer only sets `frame_valid`, at T_SEL_OFF, and the commands only clear it. -/
theorem frameValidHasOneSource : Obligations.FrameValidHasOneSource := by
  intro s t hinv h
  obtain ⟨script, rd, free, rfl | ⟨v, rfl⟩ | ⟨v, hline, hexec⟩ | hseq | ⟨hreset, rfl⟩⟩ := step_cases h
  · exact ⟨fun hs ht => absurd (hs.symm.trans ht) Bool.false_ne_true, fun hs ht => absurd (ht.symm.trans hs) Bool.false_ne_true⟩
  · exact ⟨fun hs ht => absurd (hs.symm.trans ht) Bool.false_ne_true, fun hs ht => absurd (ht.symm.trans hs) Bool.false_ne_true⟩
  · have hcommand := command_frameValid hexec
    refine ⟨fun hs ht => ?_, fun hs ht => .inr ?_⟩
    · obtain ⟨hcleared, -⟩ := hcommand (by simp [hs, ht])
      simp [ht] at hcleared
    · obtain ⟨-, hb, ⟨rfl, hbusy, hop⟩ | ⟨rfl, hbusy, hdone, hvalid⟩⟩ := hcommand (by simp [hs, ht])
      · exact .inl ⟨hb, hbusy, hop, hline⟩
      · exact .inr ⟨hb, hbusy, hdone, hvalid, hline⟩
  · obtain ⟨rfl, -⟩ := seqStep_inv hseq
    refine ⟨fun hs ht => ?_, fun hs ht => ?_⟩
    · have hph : s.ph = .tSelOff := by simpa [seqNext_frameValid, hs] using ht
      have hop : s.opRun = .txn := hinv.transaction_points (by simp [hph, Phase.transactionOnly])
      simp [hop, hph, seqNext]
    · simp [seqNext_frameValid, hs] at ht
  · exact ⟨fun _ ht => absurd ht Bool.false_ne_true, fun _ _ => .inl hreset⟩

/-! ## The output latches -/

/-- Every latch that is not the same in `t` follows a write of its new value, the one event between `s` and `t` (R42). -/
def LatchesFollowWrites (s t : State) : Prop :=
  ∀ l, latchOf l t ≠ latchOf l s → t.trace = .write l (latchOf l t) :: s.trace

theorem latchesFollowWrites_of_linesOf_eq {s t : State} (h : linesOf t = linesOf s) : LatchesFollowWrites s t := by
  intro l hl
  simp only [linesOf, Prod.mk.injEq] at h
  obtain ⟨hclk, hcmd, hsel⟩ := h
  cases l <;> contradiction

theorem lineWrite_latchOf (l l' : OutLine) (b : Bool) (s : State) :
    latchOf l' (lineWrite l b s) = if l' = l then b else latchOf l' s := by
  cases l <;> cases l' <;> rfl

theorem lineWrite_latchesFollowWrites (l : OutLine) (b : Bool) (s : State) : LatchesFollowWrites s (lineWrite l b s) := by
  intro l' hl
  by_cases heq : l' = l
  · simp [heq, lineWrite_latchOf]
  · exact absurd (by simp [heq, lineWrite_latchOf]) hl

@[simp] theorem storeReceived_linesOf (k : Fin Config.frameLen) (v : Byte) (s : State) :
    linesOf (storeReceived k v s) = linesOf s := by
  obtain ⟨k', ph', h⟩ := storeReceived_eq k v s
  rw [h]
  rfl

theorem seqNext_latchesFollowWrites (s : State) : LatchesFollowWrites s (seqNext s) := by
  cases hp : s.ph <;> simp only [seqNext, hp]
  case tCmdIdle | tClkIdle | tSelOn | bCmd | bClkLo | tCmdEnd | tSelOff => exact lineWrite_latchesFollowWrites _ _ s
  case bClkHi =>
    obtain ⟨i', ph', h⟩ := stepBClkHi_eq s
    rw [h]
    exact lineWrite_latchesFollowWrites .clk true s
  case xOk =>
    split
    · exact latchesFollowWrites_of_linesOf_eq (storeReceived_linesOf s.k s.rxb s)
    · exact latchesFollowWrites_of_linesOf_eq rfl
  all_goals exact latchesFollowWrites_of_linesOf_eq rfl

theorem decoded_linesOf (s : State) : linesOf (decoded s) = linesOf s := by
  obtain ⟨lx, ly, rx, ry, free, h⟩ := decoded_eq s
  rw [h]
  rfl

theorem command_latchesFollowWrites {v : Byte} {s t : State} (h : exec (decodeHcmd v) s = .next t) : LatchesFollowWrites s t := by
  obtain rfl | ⟨-, hacc⟩ := command_cases h
  · exact latchesFollowWrites_of_linesOf_eq rfl
  cases hacc with
  | lineWritten l => exact lineWrite_latchesFollowWrites l (argBit s) (accept s)
  | frameDecoded => exact latchesFollowWrites_of_linesOf_eq (decoded_linesOf s)
  | datSampled | ackSampled | exchangeStarted | transactionStarted => exact latchesFollowWrites_of_linesOf_eq rfl

/-- Settles O51: the sequencer and the commands change a latch by `lineWrite` alone. -/
theorem latchesChangeOnlyByLineWrites : Obligations.LatchesChangeOnlyByLineWrites := by
  intro s t h hnoreset
  have hfollow : LatchesFollowWrites s t := by
    obtain ⟨script, rd, free, rfl | ⟨v, rfl⟩ | ⟨v, -, hexec⟩ | hseq | ⟨⟨rest, hreset⟩, -⟩⟩ := step_cases h
    · exact latchesFollowWrites_of_linesOf_eq rfl
    · exact latchesFollowWrites_of_linesOf_eq rfl
    · have hcommand := command_latchesFollowWrites hexec
      exact hcommand
    · obtain ⟨rfl, -⟩ := seqStep_inv hseq
      exact seqNext_latchesFollowWrites _
    · exact absurd hreset (hnoreset rest)
  exact ⟨hfollow .clk, hfollow .cmd, hfollow .sel⟩

end Sys2Proof.Machine
end

section
/-! PROOFS. The invariants (10_state R30, R15, R20): `Inv` cut into what it asks of the sequencer's position and lines, which the control
points change, and of the flags, which the commands and the ends of operations change; then every step of the machine keeps it. -/

namespace Sys2Proof.Machine

/-! ## The two halves of the invariant -/

/-- What `Inv` asks of the operation, the lines and the sample count at control point `p`, row by row (R15, R16, R30 (3) to (5)). -/
def FitsAt (p : Phase) (s : State) : Prop :=
  match p with
  | .idle => s.n ≤ Config.ackPollMax
  | .tCmdIdle | .tClkIdle => s.opRun = .txn ∧ s.n ≤ Config.ackPollMax
  | .tSelOn => s.opRun = .txn ∧ s.clk = true ∧ s.n ≤ Config.ackPollMax
  | .tSetup | .tCmdEnd | .tSelOff => s.opRun = .txn ∧ s.sel = true ∧ s.clk = true ∧ s.n ≤ Config.ackPollMax
  | .xLoad | .aWait | .xOk => (s.opRun = .txn → s.sel = true) ∧ (s.opRun = .txn → s.clk = true) ∧ s.n ≤ Config.ackPollMax
  | .bPre | .bCmd | .bClkLo => (s.opRun = .txn → s.sel = true) ∧ (s.opRun = .txn → s.clk = true) ∧ s.n = 0
  | .bLow | .bSample | .bClkHi => (s.opRun = .txn → s.sel = true) ∧ s.clk = false ∧ s.n = 0
  | .aPoll => (s.opRun = .txn → s.sel = true) ∧ (s.opRun = .txn → s.clk = true) ∧ s.n < Config.ackPollMax
  | .xFail => (s.opRun = .txn → s.sel = true) ∧ (s.opRun = .txn → s.clk = true) ∧ s.n = Config.ackPollMax

/-- The rows of `FitsAt` against the fields of `Inv` about the position, at a control point of a running operation. -/
theorem fitsAt_iff {s : State} (hidle : s.ph ≠ .idle) : FitsAt s.ph s ↔
    (s.ph.transactionOnly = true → s.opRun = .txn) ∧
    (s.opRun = .txn → s.ph.beforeSelect = false → s.sel = true) ∧
    (s.opRun = .txn → s.ph.clockHigh = true → s.clk = true) ∧
    (s.ph.clockLow = true → s.clk = false) ∧
    s.n ≤ Config.ackPollMax ∧
    (s.ph.inCell = true → s.n = 0) ∧
    (s.ph = .aPoll → s.n < Config.ackPollMax) ∧
    (s.ph = .xFail → s.n = Config.ackPollMax) := by
  cases hp : s.ph <;>
    simp [FitsAt, Phase.transactionOnly, Phase.beforeSelect, Phase.clockHigh, Phase.clockLow, Phase.inCell]
  case idle => exact absurd hp hidle
  case tSelOn | tSetup | tCmdEnd | tSelOff =>
    intro hop
    simp [hop]
  all_goals
    intro _ _ hn
    omega

theorem Inv.fitsAt {s : State} (h : Inv s) (hidle : s.ph ≠ .idle) : FitsAt s.ph s :=
  (fitsAt_iff hidle).mpr ⟨h.transaction_points, h.select_active, h.clock_high, h.clock_low, h.polls_bounded, h.polls_zero, h.polls_left,
    h.polls_spent⟩

theorem Inv.idle_of_not_busy {s : State} (h : Inv s) (hb : s.busy = false) : s.opRun = .none ∧ s.ph = .idle := by
  have hp : s.ph = .idle := by
    by_contra hp
    simp [h.busy_iff.mpr hp] at hb
  exact ⟨h.idle_iff.mpr hp, hp⟩

/-- `t` is in the same operation as `s`, with the same flags: what a step inside an operation keeps. -/
def SameOperation (s t : State) : Prop :=
  t.opRun = s.opRun ∧ statusOf t = statusOf s ∧ t.frameValid = s.frameValid ∧ t.analog = s.analog ∧ t.stateValid = s.stateValid

/-- A step inside an operation keeps `Inv` when its new position meets what `Inv` asks of it. -/
theorem Inv.of_running {s t : State} (h : Inv s) (hs : s.ph ≠ .idle) (ht : t.ph ≠ .idle) (hsame : SameOperation s t)
    (hfit : FitsAt t.ph t) : Inv t := by
  obtain ⟨hop, hstatus, hfv, han, hsv⟩ := hsame
  obtain ⟨htxn, hsel, hhigh, hlow, hn, hzero, hleft, hspent⟩ := (fitsAt_iff ht).mp hfit
  simp only [statusOf, Prod.mk.injEq] at hstatus
  obtain ⟨hbusy, hdone, herr, -, hidx⟩ := hstatus
  have hrun : s.opRun ≠ .none := fun ho => hs (h.idle_iff.mp ho)
  refine ⟨?_, ?_, htxn, ?_, hsel, hhigh, hlow, hn, hzero, hleft, hspent, ?_, ?_, ?_, ?_, ?_⟩
  · simp [hbusy, h.busy_iff, hs, ht]
  · simp [hop, hrun, ht]
  · rw [hfv, hop]; exact h.frame_valid_no_transaction
  · rw [hidx]; exact h.err_index_le
  · rw [hbusy, hdone, herr]; exact h.busy_status
  · rw [herr, hdone]; exact h.err_done
  · rw [hidx, herr]; exact h.err_index_err
  · rw [han, hsv]; exact h.analog_valid

/-- At IDLE `Inv` asks nothing of the lines. -/
theorem Inv.of_idle {t : State} (hph : t.ph = .idle) (hop : t.opRun = .none) (hbusy : t.busy = false) (hn : t.n ≤ Config.ackPollMax)
    (hidx : t.errIndex.toNat ≤ 8) (hdone : t.err = true → t.done = true) (herr : t.errIndex ≠ 0#4 → t.err = true)
    (hvalid : t.analog = true → t.stateValid = true) : Inv t := by
  refine ⟨?_, ?_, ?_, ?_, ?_, ?_, ?_, hn, ?_, ?_, ?_, hidx, ?_, hdone, herr, hvalid⟩ <;>
    simp [hph, hop, hbusy, Phase.transactionOnly, Phase.clockLow, Phase.inCell]

/-- Settles O47: reset is idle with every flag 0. -/
theorem resetMeetsTheInvariants : Obligations.ResetMeetsTheInvariants :=
  Inv.of_idle rfl rfl rfl (by decide) (by decide) nofun (fun h => absurd rfl h) nofun

/-! ## The commands -/

/-- A one-step command ends at IDLE without an error (R17, R62). -/
theorem Inv.of_oneStep {s t : State} (h : Inv s) (hb : s.busy = false) (hph : t.ph = s.ph) (hop : t.opRun = s.opRun)
    (hbusy : t.busy = s.busy) (hn : t.n = s.n) (herr : t.err = false) (hidx : t.errIndex = 0#4)
    (hvalid : t.analog = true → t.stateValid = true) : Inv t := by
  obtain ⟨hnone, hidle⟩ := h.idle_of_not_busy hb
  exact .of_idle (hph.trans hidle) (hop.trans hnone) (hbusy.trans hb) (hn ▸ h.polls_bounded) (by simp [hidx]) (by simp [herr])
    (by simp [hidx]) hvalid

theorem inv_startExchange {s : State} (h : Inv s) : Inv (startExchange s) where
  busy_iff := by simp [startExchange]
  idle_iff := by simp [startExchange]
  transaction_points := nofun
  frame_valid_no_transaction := fun _ => nofun
  select_active := nofun
  clock_high := nofun
  clock_low := nofun
  polls_bounded := h.polls_bounded
  polls_zero := nofun
  polls_left := nofun
  polls_spent := nofun
  err_index_le := by simp [startExchange]
  busy_status := fun _ => ⟨rfl, rfl⟩
  err_done := nofun
  err_index_err := fun hne => absurd rfl hne
  analog_valid := h.analog_valid

theorem inv_startTransaction {s : State} (h : Inv s) : Inv (startTransaction s) where
  busy_iff := by simp [startTransaction]
  idle_iff := by simp [startTransaction]
  transaction_points := fun _ => rfl
  frame_valid_no_transaction := nofun
  select_active := fun _ => nofun
  clock_high := fun _ => nofun
  clock_low := nofun
  polls_bounded := h.polls_bounded
  polls_zero := nofun
  polls_left := nofun
  polls_spent := nofun
  err_index_le := by simp [startTransaction]
  busy_status := fun _ => ⟨rfl, rfl⟩
  err_done := nofun
  err_index_err := fun hne => absurd rfl hne
  analog_valid := h.analog_valid

theorem inv_decoded {s : State} (h : Inv s) (hb : s.busy = false) : Inv (decoded s) := by
  obtain ⟨lx, ly, rx, ry, free, heq⟩ := decoded_eq s
  rw [heq]
  exact h.of_oneStep hb rfl rfl rfl rfl rfl rfl fun _ => rfl

/-- A refusal changes `REFUSED` only, of which `Inv` says nothing (R161). -/
theorem inv_refuse {s : State} (h : Inv s) : Inv (refuse s) :=
  { h with }

theorem inv_command {v : Byte} {s t : State} (h : Inv s) (hexec : exec (decodeHcmd v) s = .next t) : Inv t := by
  obtain rfl | ⟨hb, hacc⟩ := command_cases hexec
  · exact inv_refuse h
  cases hacc with
  | lineWritten l => cases l <;> exact h.of_oneStep hb rfl rfl rfl rfl rfl rfl h.analog_valid
  | datSampled | ackSampled => exact h.of_oneStep hb rfl rfl rfl rfl rfl rfl h.analog_valid
  | exchangeStarted => exact inv_startExchange h
  | transactionStarted => exact inv_startTransaction h
  | frameDecoded => exact inv_decoded h hb

/-! ## The sequencer -/

/-- The control points whose step stays inside the operation, whichever it is (R126). -/
def Phase.goesOn : Phase → Bool
  | .idle | .xOk | .xFail | .tSelOff => false
  | _ => true

/-- Such a step moves the position, the lines and the shift registers only. -/
theorem seqNext_sameOperation {s : State} (hgo : s.ph.goesOn = true) : (seqNext s).ph ≠ .idle ∧ SameOperation s (seqNext s) := by
  cases hp : s.ph <;> simp only [seqNext, hp]
  case idle | xOk | xFail | tSelOff => simp [hp, Phase.goesOn] at hgo
  case bClkHi =>
    unfold stepBClkHi
    split <;> exact ⟨nofun, rfl, rfl, rfl, rfl, rfl⟩
  case aPoll =>
    unfold stepAPoll
    split <;> exact ⟨nofun, rfl, rfl, rfl, rfl, rfl⟩
  case aWait =>
    unfold stepAWait
    split <;> exact ⟨nofun, rfl, rfl, rfl, rfl, rfl⟩
  all_goals exact ⟨nofun, rfl, rfl, rfl, rfl, rfl⟩

/-- What such a step leaves is what the next control point asks (R126). -/
theorem seqNext_fitsAt {s : State} (hs : FitsAt s.ph s) (hgo : s.ph.goesOn = true) : FitsAt (seqNext s).ph (seqNext s) := by
  cases hp : s.ph <;> simp only [seqNext, hp] <;> rw [hp] at hs
  case idle | xOk | xFail | tSelOff => simp [hp, Phase.goesOn] at hgo
  case tCmdIdle | bPre | bCmd | bLow | bSample | tCmdEnd => exact hs
  case tClkIdle =>
    obtain ⟨hop, hn⟩ := hs
    exact ⟨hop, rfl, hn⟩
  case tSelOn =>
    obtain ⟨hop, hclk, hn⟩ := hs
    exact ⟨hop, rfl, hclk, hn⟩
  case tSetup =>
    obtain ⟨-, hsel, hclk, hn⟩ := hs
    exact ⟨fun _ => hsel, fun _ => hclk, hn⟩
  case xLoad =>
    obtain ⟨hsel, hclk, -⟩ := hs
    exact ⟨hsel, hclk, rfl⟩
  case bClkLo =>
    obtain ⟨hsel, -, hn⟩ := hs
    exact ⟨hsel, rfl, hn⟩
  case bClkHi =>
    obtain ⟨hsel, -, hn⟩ := hs
    unfold stepBClkHi
    split
    · exact ⟨hsel, fun _ => rfl, hn⟩
    · exact ⟨hsel, fun _ => rfl, hn.trans_lt (by decide)⟩
  case aPoll =>
    obtain ⟨hsel, hclk, hn⟩ := hs
    unfold stepAPoll
    split <;> exact ⟨hsel, hclk, hn⟩
  case aWait =>
    obtain ⟨hsel, hclk, hn⟩ := hs
    unfold stepAWait
    split
    case isTrue hlast => exact ⟨hsel, hclk, hlast⟩
    case isFalse hmore => exact ⟨hsel, hclk, lt_of_le_of_ne hn hmore⟩

/-- The end of an operation (R8) asks of the flags only what `Inv` already says of them. -/
theorem inv_complete {u : State} (hn : u.n ≤ Config.ackPollMax) (hidx : u.errIndex.toNat ≤ 8)
    (herr : u.errIndex ≠ 0#4 → u.err = true) (hvalid : u.analog = true → u.stateValid = true) : Inv (complete u) :=
  .of_idle rfl rfl rfl hn hidx (fun _ => rfl) herr hvalid

/-- R165: the error index is that of an exchange, and comes with `ERR` = 1 and `DONE` = 1. -/
theorem inv_raiseAckTimeout {s : State} (h : Inv s) : Inv (raiseAckTimeout s) := by
  refine inv_complete h.polls_bounded ?_ (fun _ => rfl) h.analog_valid
  have hk : s.k.val < 9 := s.k.isLt
  split
  · simp only [BitVec.toNat_ofNat]
    omega
  · exact Nat.zero_le 8

/-- X_OK of a transaction goes on, to the next exchange or to the epilogue (R126). -/
theorem inv_storeReceived {s : State} (h : Inv s) (hp : s.ph = .xOk) (hop : s.opRun = .txn) : Inv (storeReceived s.k s.rxb s) := by
  have hs : s.ph ≠ .idle := by simp [hp]
  have hfit : FitsAt .xOk s := hp ▸ h.fitsAt hs
  obtain ⟨hsel, hclk, hn⟩ := hfit
  unfold storeReceived
  split
  · exact h.of_running hs nofun ⟨rfl, rfl, rfl, rfl, rfl⟩ ⟨hsel, hclk, hn⟩
  · exact h.of_running hs nofun ⟨rfl, rfl, rfl, rfl, rfl⟩ ⟨hop, hsel hop, hclk hop, hn⟩

theorem inv_seqNext {s : State} (h : Inv s) : Inv (seqNext s) := by
  cases hgo : s.ph.goesOn with
  | true =>
    have hs : s.ph ≠ .idle := fun hp => by simp [hp, Phase.goesOn] at hgo
    obtain ⟨hnext, hsame⟩ := seqNext_sameOperation hgo
    exact h.of_running hs hnext hsame (seqNext_fitsAt (h.fitsAt hs) hgo)
  | false =>
    cases hp : s.ph <;> simp only [seqNext, hp]
    case idle => exact h
    case xOk =>
      split
      case isTrue hop => exact inv_storeReceived h hp hop
      case isFalse => exact inv_complete h.polls_bounded h.err_index_le h.err_index_err h.analog_valid
    case xFail => exact inv_raiseAckTimeout h
    case tSelOff => exact inv_complete h.polls_bounded h.err_index_le h.err_index_err h.analog_valid
    all_goals simp [hp, Phase.goesOn] at hgo

/-! ## Every step -/

theorem Inv.outside {s : State} (h : Inv s) (lines : List HostLine) (rd : Byte) (free : Nat) :
    Inv { s with script := lines, rdData := rd, freeCtr := free } :=
  { h with }

/-- Settles O48, by the five shapes of a step; the outside's own fields and `ARG` are not in `Inv`. -/
theorem stepKeepsTheInvariants : Obligations.StepKeepsTheInvariants := by
  intro s t h hstep
  obtain ⟨script, rd, free, rfl | ⟨v, rfl⟩ | ⟨v, -, hexec⟩ | hseq | ⟨-, rfl⟩⟩ := step_cases hstep
  · exact h.outside script rd free
  · exact { h with }
  · exact inv_command (h.outside script rd free) hexec
  · obtain ⟨rfl, -⟩ := seqStep_inv hseq
    exact inv_seqNext (h.outside script rd free)
  · exact { resetMeetsTheInvariants with }

end Sys2Proof.Machine
end

section
/-! PROOFS. The host's accesses (20_memory R41): the step runs the next line of the script, so a command written or placed is run, WAIT
reads STATUS, a read leaves the SSPC as it is and a wide access is refused. -/

namespace Sys2Proof.Machine

/-- R41: while the host has a line to run, that line is the step. -/
theorem step_of_line {s : State} {l : HostLine} {rest : List HostLine} (h : s.script = l :: rest) : step s = runLine l rest s := by
  rw [step, h]

/-! ## Commands -/

theorem runCode_of_decode {c : Code} {i : Instr} (h : decode c = .ok i) (s : State) : runCode c s = exec i s := by
  rw [runCode, h]

theorem hostWrite_cmd (v : Byte) (s : State) : hostWrite cmdReg v s = runCode (.hcmd v) s := rfl

/-- Settles O4: a write to CMD runs the code of the byte written. -/
theorem stepRunsTheCommandWritten : Obligations.StepRunsTheCommandWritten := by
  intro s v i rest hs hd
  calc step s = hostWrite cmdReg v { s with script := rest } := step_of_line hs
    _ = runCode (.hcmd v) { s with script := rest } := hostWrite_cmd v _
    _ = exec i { s with script := rest } := runCode_of_decode hd _

/-- A table word of eight bits is the one byte it holds. -/
theorem tableBytes_of_byte (v : Byte) : tableBytes 8 v.toNat = [v] := by
  simp [tableBytes]

theorem withFetchWord_of_byte (s : State) (v : Byte) :
    s.withFetchWord 8 v.toNat = { s with script := .wr cmdReg v :: s.script } := by
  simp [State.withFetchWord, fetchLine, tableBytes_of_byte]

theorem decodeTableWord_of_byte (v : Byte) : decodeTableWord 8 v.toNat = some (decodeHcmd v) := by
  simp [decodeTableWord, tableBytes_of_byte, decodeBytes]

/-- Settles O5: the word placed is the next write to CMD, and past it the script is what it was. -/
theorem stepRunsTheFetchedWord : Obligations.StepRunsTheFetchedWord := by
  intro s v
  refine ⟨decodeTableWord_of_byte v, ?_⟩
  rw [withFetchWord_of_byte]
  exact stepRunsTheCommandWritten _ v _ s.script rfl (decode_hcmd v)

/-! ## WAIT, reads and wide accesses -/

theorem waitLine_busy {s : State} (hb : s.busy = true) (rest : List HostLine) :
    waitLine rest s = seqStep { s with rdData := statusByte s } := by
  rw [waitLine, if_pos hb, statusReg, hostRead_status]

theorem waitLine_idle {s : State} (hb : s.busy = false) (rest : List HostLine) :
    waitLine rest s = .next { s with rdData := statusByte s, script := rest } := by
  rw [waitLine, if_neg (by simp [hb]), statusReg, hostRead_status]

/-- Settles O8, by the two cases of `BUSY`. -/
theorem waitLastsWhileBusy : Obligations.WaitLastsWhileBusy := by
  intro s rest hs
  have hstep : step s = waitLine rest s := step_of_line hs
  exact ⟨fun hb => hstep.trans (waitLine_busy hb rest), fun hb => hstep.trans (waitLine_idle hb rest)⟩

/-- Settles O46: the line of a wide access is the refusal. -/
theorem wideAccessIsOutside : Obligations.WideAccessIsOutside := by
  intro s a n rest hs
  exact step_of_line hs

theorem hostRead_rdData {a : RegNo} {s : State} {v : Byte} (h : regValue a s = some v) : (hostRead a s).rdData = v := by
  simp [hostRead, h]

/-- Settles O53: a read writes only the outside's own fields, and the script is no part of a register's value. -/
theorem hostReadsChangeNothing : Obligations.HostReadsChangeNothing := by
  intro s a rest hs
  have hvalue : regValue a { s with script := rest } = regValue a s := rfl
  refine ⟨hostRead a { s with script := rest }, step_of_line hs, ?_⟩
  obtain ⟨rd, free, hread⟩ := hostRead_eq a { s with script := rest }
  have hrd (v : Byte) (hv : regValue a s = some v) : (hostRead a { s with script := rest }).rdData = v :=
    hostRead_rdData (hvalue.trans hv)
  rw [hread] at hrd ⊢
  exact ⟨⟨rfl, rfl, rfl, rfl, rfl, rfl, rfl⟩, rfl, rfl, rfl, rfl, hrd⟩

end Sys2Proof.Machine
end

section
/-! PROOFS. What a byte exchange samples, whatever the device answers (20_memory R43; 41_byte_exchange R101, R106): each part of it adds
its events to the trace and uses up one listed sample for each read. -/

namespace Sys2Proof.Machine

/-- Whether an event is a sample of the line `l`. -/
def isSampleOf (l : InLine) (e : Event) : Bool :=
  e == .read l true || e == .read l false

/-- From `s` to `t` `DAT` is sampled `d` times and `ACK` `a` times: the events added hold these samples, the listed ones are used up, and `n`
counts those of `ACK`. -/
def Samples (d a : Nat) (s t : State) : Prop :=
  t.datIn = s.datIn.drop d ∧ t.ackIn = s.ackIn.drop a ∧ t.n = s.n + a ∧
    ∃ es, t.trace = es ++ s.trace ∧ (es.filter (isSampleOf .dat)).length = d ∧ (es.filter (isSampleOf .ack)).length = a

theorem Samples.refl (s : State) : Samples 0 0 s s :=
  ⟨rfl, rfl, rfl, [], rfl, rfl, rfl⟩

theorem Samples.n_eq {d a : Nat} {s t : State} (h : Samples d a s t) : t.n = s.n + a := by
  obtain ⟨-, -, hn, -⟩ := h
  exact hn

theorem Samples.trans {d a d' a' : Nat} {s t u : State} (h : Samples d a s t) (g : Samples d' a' t u) : Samples (d + d') (a + a') s u := by
  obtain ⟨hdat, hack, hn, es, htrace, hd, ha⟩ := h
  obtain ⟨gdat, gack, gn, fs, gtrace, gd, ga⟩ := g
  refine ⟨by rw [gdat, hdat, List.drop_drop], by rw [gack, hack, List.drop_drop], by omega, fs ++ es, ?_, ?_, ?_⟩
  · rw [gtrace, htrace, List.append_assoc]
  · rw [List.filter_append, List.length_append]
    omega
  · rw [List.filter_append, List.length_append]
    omega

/-! ## The bit cells -/

theorem bitCell_samples (s : State) (j : Fin 8) : Samples 1 0 s (bitCell s j) := by
  obtain ⟨b, -, h⟩ := bitCell_eq s j
  rw [h]
  refine ⟨List.drop_one.symm, rfl, rfl, [_, _, _, _, _, _], rfl, ?_, ?_⟩ <;> cases b <;> rfl

theorem byteCells_samples (s : State) : Samples 8 0 s (byteCells s) := by
  have hcells (js : List (Fin 8)) : Samples js.length 0 s (js.foldl bitCell s) := by
    induction js generalizing s with
    | nil => exact .refl s
    | cons j js ih => simpa [Nat.add_comm] using (bitCell_samples s j).trans (ih (bitCell s j))
  exact hcells (List.finRange 8)

@[simp] theorem bitCell_clk (s : State) (j : Fin 8) : (bitCell s j).clk = true := rfl

@[simp] theorem bitCell_cmd (s : State) (j : Fin 8) : (bitCell s j).cmd = s.txb.getLsbD j := rfl

@[simp] theorem bitCell_txb (s : State) (j : Fin 8) : (bitCell s j).txb = s.txb := rfl

/-- R106: the last cell leaves the clock high and bit 7 on the command line. -/
theorem byteCells_lines (s : State) : (byteCells s).clk = true ∧ (byteCells s).cmd = s.txb.getLsbD 7 := by
  have h : List.finRange 8 = [0, 1, 2, 3, 4, 5, 6, 7] := by decide
  simp [byteCells, h]

/-! ## The acknowledgement wait -/

theorem pollAck_samples (s : State) : Samples 0 1 s (pollAck s) := by
  refine ⟨rfl, List.drop_one.symm, rfl, [.read .ack (ackNow s)], rfl, ?_, ?_⟩ <;> cases ackNow s <;> rfl

theorem delay_samples (d : Nat) (s : State) : Samples 0 0 s (delay d s) :=
  ⟨rfl, rfl, rfl, [.delay d], rfl, rfl, rfl⟩

theorem ackWait_samples (polls : Nat) (s : State) : ∃ a, Samples 0 a s (ackWait polls s).1 := by
  induction polls generalizing s with
  | zero => exact ⟨0, .refl s⟩
  | succ polls ih =>
    rw [ackWait]
    split
    · obtain ⟨a, ha⟩ := ih (delay Config.tHalf (pollAck s))
      exact ⟨_, ((pollAck_samples s).trans (delay_samples _ _)).trans ha⟩
    · exact ⟨1, pollAck_samples s⟩

/-- R103: a wait from `n` = 0 takes 1 to 50 samples, and without success all 50; the output latches stay. -/
theorem ackWait_bounds {s : State} (hn : s.n = 0) : linesOf (ackWait Config.ackPollMax s).1 = linesOf s ∧
    1 ≤ (ackWait Config.ackPollMax s).1.n ∧ (ackWait Config.ackPollMax s).1.n ≤ 50 ∧
    ((ackWait Config.ackPollMax s).2 = false → (ackWait Config.ackPollMax s).1.n = 50) := by
  obtain ⟨t, hwait, -, hmax, hmin, hall⟩ := ackWait_spec Config.ackPollMax s
  rw [hn, Nat.zero_add] at hmax hall
  rw [hwait]
  exact ⟨rfl, Nat.one_le_of_lt (hmin (by decide)), hmax, hall⟩

/-! ## The exchange -/

/-- The outcome of the wait is a control point, which no sample depends on. -/
theorem settleExchange_samples {d a : Nat} {s : State} {r : State × Bool} (h : Samples d a s r.1) :
    Samples d a s (settleExchange r) :=
  h

theorem exec_wbyte (out : Byte) (s : State) : exec (.wbyte out) s = .next (exchangeByte out s) := rfl

/-- R43, R101: eight samples of `DAT`, and of `ACK` as many as `n` says at the end. -/
theorem exchangeByte_samples (out : Byte) (s : State) : Samples 8 (exchangeByte out s).n (loadByte out s) (exchangeByte out s) := by
  obtain ⟨a, hwait⟩ := ackWait_samples Config.ackPollMax (byteCells (loadByte out s))
  have hall : Samples 8 (0 + a) (loadByte out s) (exchangeByte out s) :=
    settleExchange_samples ((byteCells_samples (loadByte out s)).trans hwait)
  have hn : (exchangeByte out s).n = 0 + a := hall.n_eq.trans (Nat.zero_add _)
  rw [hn]
  exact hall

/-- R103, R106: the exchange ends with 1 to 50 samples of `ACK`, in timeout only with 50; the clock is high, the last bit on the
command line. -/
theorem exchangeByte_end (out : Byte) (s : State) :
    ((exchangeByte out s).ph = .xOk ∨ ((exchangeByte out s).ph = .xFail ∧ (exchangeByte out s).n = 50)) ∧
    1 ≤ (exchangeByte out s).n ∧ (exchangeByte out s).n ≤ 50 ∧ (exchangeByte out s).clk = true ∧
    (exchangeByte out s).cmd = out.getLsbD 7 := by
  have hcells : (byteCells (loadByte out s)).n = 0 := (byteCells_samples (loadByte out s)).n_eq
  obtain ⟨hclk, hcmd⟩ := byteCells_lines (loadByte out s)
  obtain ⟨hlines, hmin, hmax, hall⟩ := ackWait_bounds hcells
  simp only [linesOf, Prod.mk.injEq] at hlines
  obtain ⟨hwclk, hwcmd, -⟩ := hlines
  refine ⟨?_, hmin, hmax, hwclk.trans hclk, hwcmd.trans hcmd⟩
  cases hsettled : (ackWait Config.ackPollMax (byteCells (loadByte out s))).2 with
  | true => exact .inl (if_pos hsettled)
  | false => exact .inr ⟨if_neg (by simp [hsettled]), hall hsettled⟩

/-- Settles O24: `exchangeByte_end` for how it ends, `exchangeByte_samples` for what it samples; select is not written. -/
theorem exchangeAlwaysEnds : Obligations.ExchangeAlwaysEnds := by
  intro s out
  obtain ⟨hph, hmin, hmax, hclk, hcmd⟩ := exchangeByte_end out s
  obtain ⟨hdat, hack, -, es, htrace, hd, ha⟩ := exchangeByte_samples out s
  obtain ⟨-, -, -, hsel, -⟩ := exchangeByte_keeps out s
  exact ⟨exchangeByte out s, es, exec_wbyte out s, hph, hmin, hmax, hclk, hcmd, hsel, hdat, hack, htrace, hd, ha⟩

end Sys2Proof.Machine
end

section
/-! PROOFS. The coded forms (30_encoding R60 to R74, R78): a command word as its two fields, a byte as its eight bit cells, the mode byte,
and that every row is decoded from the form it is encoded in. -/

namespace Sys2Proof

/-! ## Command words (R61, R62, R74) -/

/-- R74: a word whose bits 7:3 are not 0 is reserved, with the fields of the word. -/
theorem decodeHcmd_of_rsv_ne {v : Byte} (h : v.extractLsb' 3 5 ≠ 0#5) :
    decodeHcmd v = .reserved (v.extractLsb' 3 5) (v.extractLsb' 0 3) :=
  if_pos h

/-- R74: bits 7:3 are not 0 in the bytes 0x08 to 0xFF. -/
theorem rsv_ne_zero_iff (v : Byte) : v.extractLsb' 3 5 ≠ 0#5 ↔ 8 ≤ v.toNat := by
  have hv : v.toNat < 256 := v.isLt
  rw [ne_eq, ← BitVec.toNat_inj, BitVec.extractLsb'_toNat, Nat.shiftRight_eq_div_pow, BitVec.toNat_ofNat]
  omega

@[simp] theorem hcmdWord_rsv (rsv : BitVec 5) (op : BitVec 3) : (hcmdWord rsv op).extractLsb' 3 5 = rsv :=
  BitVec.extractLsb'_append_eq_left

@[simp] theorem hcmdWord_op (rsv : BitVec 5) (op : BitVec 3) : (hcmdWord rsv op).extractLsb' 0 3 = op :=
  BitVec.extractLsb'_append_eq_right

/-- R61: a word is its two fields. -/
theorem hcmdWord_fields (v : Byte) : hcmdWord (v.extractLsb' 3 5) (v.extractLsb' 0 3) = v :=
  (BitVec.extractLsb'_append_extractLsb'_eq_extractLsb' (start₁ := 0) (len₁ := 3) rfl).trans BitVec.extractLsb'_eq_self

theorem decodeHcmd_hcmdWord {rsv : BitVec 5} (h : rsv ≠ 0#5) (op : BitVec 3) :
    decodeHcmd (hcmdWord rsv op) = .reserved rsv op := by
  rw [decodeHcmd_of_rsv_ne (by rwa [hcmdWord_rsv]), hcmdWord_rsv, hcmdWord_op]

theorem encode_decodeHcmd (v : Byte) : encode (decodeHcmd v) = .hcmd v := by
  rcases Machine.decodeHcmd_cases v with ⟨hv, -⟩ | ⟨rfl, -⟩ | ⟨rfl, -⟩ | ⟨rfl, -⟩ | ⟨rfl, -⟩ | ⟨rfl, -⟩ | ⟨rfl, -⟩ | ⟨rfl, -⟩ | ⟨rfl, -⟩
  case inl =>
    rw [decodeHcmd_of_rsv_ne ((rsv_ne_zero_iff v).mpr hv), encode, hcmdWord_fields]
  all_goals rfl

theorem decodeHcmd_wellFormed (v : Byte) : (decodeHcmd v).wellFormed = true := by
  rcases Machine.decodeHcmd_cases v with ⟨hv, -⟩ | ⟨-, h⟩ | ⟨-, h⟩ | ⟨-, h⟩ | ⟨-, h⟩ | ⟨-, h⟩ | ⟨-, h⟩ | ⟨-, h⟩ | ⟨-, h⟩
  case inl =>
    have hrsv := (rsv_ne_zero_iff v).mpr hv
    rw [decodeHcmd_of_rsv_ne hrsv]
    exact bne_iff_ne.mpr hrsv
  all_goals rw [h]; rfl

/-- Only the words of the reserved rows are decoded to one (R62, R74). -/
theorem decodeHcmd_reserved_iff (v : Byte) :
    8 ≤ v.toNat ↔ decodeHcmd v = .reserved (v.extractLsb' 3 5) (v.extractLsb' 0 3) := by
  refine ⟨fun hv => decodeHcmd_of_rsv_ne ((rsv_ne_zero_iff v).mpr hv), fun h => ?_⟩
  have hwf := decodeHcmd_wellFormed v
  rw [h] at hwf
  exact (rsv_ne_zero_iff v).mp (bne_iff_ne.mp hwf)

/-! ## The eight bit cells of a byte (R64, R72) -/

theorem toNat_getLsbD (v : Byte) (j : Nat) : (v.getLsbD j).toNat = v.toNat / 2 ^ j % 2 :=
  Nat.toNat_testBit v.toNat j

/-- R72: the byte of its own eight bits. -/
theorem byteOfBits_getLsbD (v : Byte) : byteOfBits (v.getLsbD 0) (v.getLsbD 1) (v.getLsbD 2) (v.getLsbD 3) (v.getLsbD 4) (v.getLsbD 5)
    (v.getLsbD 6) (v.getLsbD 7) = v := by
  have hv : v.toNat < 256 := v.isLt
  apply BitVec.eq_of_toNat_eq
  simp only [byteOfBits, BitVec.toNat_ofNat, toNat_getLsbD]
  omega

theorem decode_wireBits (v : Byte) : decode (.wbyte (wireBits v)) = .ok (.wbyte v) :=
  congrArg (fun w => Except.ok (Instr.wbyte w)) (byteOfBits_getLsbD v)

/-! ## The mode byte (R71) -/

theorem decode_mode_sentinel : decode (.mode Config.digitalModeSentinel) = .ok .modeDigital :=
  congrArg Except.ok (if_pos rfl)

theorem decode_mode_of_ne {v : Byte} (h : v ≠ Config.digitalModeSentinel) : decode (.mode v) = .ok (.modeAnalog v) :=
  congrArg Except.ok (if_neg h)

/-! ## Every row -/

/-- Settles O2. A reserved word, the cells of a byte and the two modes go by their lemmas; every other coded form is a constant, or carries a
received byte as it is, and the decoder runs on it. -/
theorem decodeOfEncodeIsTheInstruction : Obligations.DecodeOfEncodeIsTheInstruction := by
  intro i hwf
  cases i
  case reserved rsv op =>
    have hrsv : rsv ≠ 0#5 := bne_iff_ne.mp hwf
    exact congrArg Except.ok (decodeHcmd_hcmdWord hrsv op)
  case wbyte out => exact decode_wireBits out
  case modeDigital => exact decode_mode_sentinel
  case modeAnalog v =>
    have hv : v ≠ Config.digitalModeSentinel := bne_iff_ne.mp hwf
    exact decode_mode_of_ne hv
  all_goals rfl

/-- Settles O3: the decoder's row is one by `encode_decodeHcmd`, and any other row with this word is decoded from it too. -/
theorem everyCommandByteHasOneRow : Obligations.EveryCommandByteHasOneRow := by
  intro v
  refine ⟨decodeHcmd_wellFormed v, encode_decodeHcmd v, ?_, decodeHcmd_reserved_iff v⟩
  intro i hwf henc
  have hdec : decode (.hcmd v) = .ok i := henc ▸ decodeOfEncodeIsTheInstruction i hwf
  injection hdec with h
  exact h.symm

/-- Settles O1: the decoder runs on each word. -/
theorem wordsOfTheSpecDecode : Obligations.WordsOfTheSpecDecode :=
  ⟨rfl, rfl, rfl, rfl, rfl, rfl, rfl, rfl, rfl, rfl, rfl, rfl⟩

end Sys2Proof
end

section
/-! PROOFS. The bytes that go out by themselves (30_encoding R64, R66, R72; R102): the eight bit cells as one update of the state, with the
byte received, whatever the samples are. -/

namespace Sys2Proof.Machine

/-- Cells of different bits, one after the other (R102). The byte `v` in `rxb` afterwards has the samples at the bits of the cells and the old
bits elsewhere; the lines and `i` are those of the last cell. -/
theorem bitCells_eq (js : List (Fin 8)) (hjs : js.Nodup) (s : State) : ∃ (v : Byte) (clk cmd : Bool) (i : Fin 8),
    js.foldl bitCell s = { s with
      i := i, clk := clk, cmd := cmd, rxb := v, datIn := s.datIn.drop js.length
      trace := (js.flatMap (cellEvents s.txb v)).reverse ++ s.trace } ∧
    (∀ j ∉ js, v.getLsbD j = s.rxb.getLsbD j) ∧
    (∀ (w : Byte) (ds : List Bool), s.datIn = js.map (fun j : Fin 8 => w.getLsbD j) ++ ds → ∀ j ∈ js, v.getLsbD j = w.getLsbD j) := by
  induction js generalizing s with
  | nil => exact ⟨s.rxb, s.clk, s.cmd, s.i, rfl, fun _ _ => rfl, fun _ _ _ j hj => absurd hj List.not_mem_nil⟩
  | cons j js ih =>
    obtain ⟨hj, hjs⟩ := List.nodup_cons.mp hjs
    obtain ⟨b, hb, hcell⟩ := bitCell_eq s j
    obtain ⟨v, clk, cmd, i, hfold, hold, hnew⟩ := ih hjs (bitCell s j)
    have hrxb : (bitCell s j).rxb = setBit s.rxb j b := by rw [hcell]
    have hdat : (bitCell s j).datIn = s.datIn.tail := by rw [hcell]
    have htrace : (bitCell s j).trace = (cellEvents s.txb v j).reverse ++ s.trace := by
      have hvj : v.getLsbD j = b := by rw [hold j hj, hrxb, setBit_getLsbD, if_pos rfl]
      rw [hcell, cellEvents, hvj]
      rfl
    refine ⟨v, clk, cmd, i, ?_, ?_, ?_⟩
    · rw [List.foldl_cons, hfold, hdat, htrace, hcell, List.drop_tail, List.flatMap_cons, List.reverse_append, List.append_assoc]
      rfl
    · intro j' hj'
      obtain ⟨hne, hmem⟩ := not_or.mp (List.mem_cons.not.mp hj')
      rw [hold j' hmem, hrxb, setBit_getLsbD, if_neg hne]
    · intro w ds hds j' hj'
      rw [List.map_cons, List.cons_append] at hds
      obtain rfl | hmem := List.mem_cons.mp hj'
      · rw [hold j' hj, hrxb, setBit_getLsbD, if_pos rfl, hb _ _ hds]
      · exact hnew w ds (by rw [hdat, hds, List.tail_cons]) j' hmem

theorem wireBits_eq_map (w : Byte) : wireBits w = (List.finRange 8).map fun j : Fin 8 => w.getLsbD j := rfl

/-- R102 in order of the bits. -/
theorem byteCells_i (s : State) : (byteCells s).i = 7 := by
  have h : List.finRange 8 = [0, 1, 2, 3, 4, 5, 6, 7] := by decide
  rw [byteCells, h]
  rfl

/-- The eight cells of a byte (R64, R101): some byte `v` is received, and it is the one the device presents where it presents one. -/
theorem byteCells_eq (s : State) : ∃ v : Byte,
    (∀ (w : Byte) (ds : List Bool), s.datIn = wireBits w ++ ds → v = w) ∧
    byteCells s = { s with
      i := 7, clk := true, cmd := s.txb.getLsbD 7, rxb := v, datIn := s.datIn.drop 8
      trace := (cellsEvents s.txb v).reverse ++ s.trace } := by
  obtain ⟨v, clk, cmd, i, hcells, -, hdevice⟩ := bitCells_eq (List.finRange 8) (List.nodup_finRange 8) s
  refine ⟨v, ?_, ?_⟩
  · intro w ds hds
    refine BitVec.eq_of_getLsbD_eq fun j hj => ?_
    exact hdevice w ds (by rw [hds, wireBits_eq_map]) ⟨j, hj⟩ (List.mem_finRange _)
  · obtain ⟨hclk, hcmd⟩ := byteCells_lines s
    have hi := byteCells_i s
    change byteCells s = _ at hcells
    rw [hcells] at hclk hcmd hi ⊢
    simp only at hclk hcmd hi
    rw [hclk, hcmd, hi]
    rfl

/-- A byte sent up to the acknowledgement window (R64, R66). -/
theorem sendByte_eq (out : Byte) (s : State) : ∃ v : Byte,
    (∀ (w : Byte) (ds : List Bool), s.datIn = wireBits w ++ ds → v = w) ∧
    sendByte out s = { s with
      txb := out, rxb := v, i := 7, n := 0, ph := .aPoll, clk := true, cmd := out.getLsbD 7, datIn := s.datIn.drop 8
      trace := (cellsEvents out v).reverse ++ s.trace } := by
  obtain ⟨v, hdevice, hcells⟩ := byteCells_eq (loadByte out s)
  refine ⟨v, hdevice, ?_⟩
  rw [sendByte, hcells]
  rfl

theorem wireBits_length (v : Byte) : (wireBits v).length = 8 := rfl

/-- R72: what a device presents is what is received. -/
theorem sendByte_of_device (out v : Byte) (ds : List Bool) {s : State} (hds : s.datIn = wireBits v ++ ds) :
    sendByte out s = { s with
      txb := out, rxb := v, i := 7, n := 0, ph := .aPoll, clk := true, cmd := out.getLsbD 7, datIn := ds
      trace := (cellsEvents out v).reverse ++ s.trace } := by
  obtain ⟨w, hdevice, hsend⟩ := sendByte_eq out s
  rw [hsend, hdevice v ds hds, hds, List.drop_left' (wireBits_length v)]

theorem exec_wcmdStart (s : State) : exec .wcmdStart s = .next (sendByte 0x01#8 s) := rfl

theorem exec_wcmdPoll (s : State) : exec .wcmdPoll s = .next (sendByte 0x42#8 s) := rfl

theorem exec_wcmdPad (s : State) : exec .wcmdPad s = .next (sendByte 0xFF#8 s) := rfl

/-- Settles O20: `CMD` ends at bit 7 of the byte, 0 for START and POLL_CMD and 1 for PAD. -/
theorem roleBytesGoOutBitByBit : Obligations.RoleBytesGoOutBitByBit := by
  intro s v ds hds
  rw [exec_wcmdStart, exec_wcmdPoll, exec_wcmdPad, sendByte_of_device _ v ds hds, sendByte_of_device _ v ds hds,
    sendByte_of_device _ v ds hds]
  exact ⟨rfl, rfl, rfl⟩

/-- Settles O21, by `sendByte_eq` for the byte of each row. -/
theorem roleBytesGoOutWhateverTheSamples : Obligations.RoleBytesGoOutWhateverTheSamples := by
  intro s p hp
  have hexec : exec p.1 s = .next (sendByte p.2 s) := by
    simp only [List.mem_cons, List.not_mem_nil, or_false] at hp
    obtain rfl | rfl | rfl := hp
    · exact exec_wcmdStart s
    · exact exec_wcmdPoll s
    · exact exec_wcmdPad s
  obtain ⟨v, -, hsend⟩ := sendByte_eq p.2 s
  exact ⟨v, hexec.trans (congrArg _ hsend)⟩

end Sys2Proof.Machine
end

section
/-! PROOFS. The rows inside an operation (30_encoding R65, R68, R69, R71, R74, R78): the byte a row loads, the flag a button row writes, the
axes a mode row writes, and the two rows whose effect is one line of the spec. -/

namespace Sys2Proof.Machine

/-! ## The bytes sent (R65) -/

/-- Settles O18: row `k` is X_LOAD with the `k`-th byte of R65, which is the padding from the third on. -/
theorem sequenceBytesAreLoaded : Obligations.SequenceBytesAreLoaded := by
  intro s
  refine ⟨exec_txSeqRow 0 s, exec_txSeqRow 1 s, fun i hi => ?_⟩
  have hrows : [Instr.txSeq2, .txSeq3, .txSeq4, .txSeq5, .txSeq6, .txSeq7, .txSeq8] =
      [2, 3, 4, 5, 6, 7, 8].map txSeqRow := rfl
  rw [hrows, List.mem_map] at hi
  obtain ⟨k, hk, rfl⟩ := hi
  have hpad : ∀ k ∈ [(2 : Fin Config.frameLen), 3, 4, 5, 6, 7, 8], Config.txSeq k = 0xFF#8 := by decide
  rw [exec_txSeqRow, hpad k hk]
  rfl

/-! ## The rows a step fetches (R126) -/

theorem step_of_no_line {s : State} (h : s.script = []) : step s = seqStep s := by
  rw [step, h]

theorem seqStep_xLoad_txn {s : State} (hop : s.opRun = .txn) (hp : s.ph = .xLoad) :
    seqStep s = runCode (.txSeq s.k (Config.txSeq s.k)) s := by
  simp [seqStep, stepXLoad, hp, hop]

theorem seqStep_xOk_txn {s : State} (hop : s.opRun = .txn) (hp : s.ph = .xOk) : seqStep s = runCode (.frame s.k s.rxb) s := by
  simp [seqStep, stepXOk, hp, hop]

/-- Settles O6: at both control points the sequencer runs the code that stands there. -/
theorem stepRunsTheRowOfTheByte : Obligations.StepRunsTheRowOfTheByte := by
  intro s i hs hop
  refine ⟨fun hp hd => ?_, fun hp hd => ?_⟩
  · rw [step_of_no_line hs, seqStep_xLoad_txn hop hp, runCode_of_decode hd]
  · rw [step_of_no_line hs, seqStep_xOk_txn hop hp, runCode_of_decode hd]

/-! ## Reserved words and POLL (R74, R78) -/

/-- Settles O12: the meaning of a reserved word does not look at the state. -/
theorem reservedWordsAreRefused : Obligations.ReservedWordsAreRefused :=
  fun _ _ _ => rfl

/-- Settles O7: a POLL line runs the code of the script, which is the pseudo-operation's own. -/
theorem pollStandsForItsScript : Obligations.PollStandsForItsScript := by
  intro s rest
  refine ⟨rfl, fun hs => ?_⟩
  calc step s = runCode (.script pollScript) { s with script := rest } := step_of_line hs
    _ = exec .poll { s with script := rest } := runCode_of_decode rfl _

/-! ## The buttons (R68, R69, R142, R143) -/

theorem exec_buttonARow (bit : Fin 8) (s : State) : exec (buttonARow bit) s = .next (writeFlagA bit s) := by
  fin_cases bit <;> rfl

theorem exec_buttonBRow (bit : Fin 8) (s : State) : exec (buttonBRow bit) s = .next (writeFlagB bit s) := by
  fin_cases bit <;> rfl

theorem setBit_getLsbD_same (v : Byte) (i : Fin 8) (b : Bool) : (setBit v i b).getLsbD i = b := by
  rw [setBit_getLsbD, if_pos rfl]

theorem setBit_getLsbD_ne (v : Byte) {i j : Fin 8} (h : j ≠ i) (b : Bool) : (setBit v i b).getLsbD j = v.getLsbD j := by
  rw [setBit_getLsbD, if_neg h]

/-- R73 for byte `k` of a frame that has values. -/
theorem setBit_pressed_frameView {s : State} (hv : s.frameValid = true) (hb : s.busy = false) (v : Byte) (k : Fin Config.frameLen)
    (bit : Fin 8) : (setBit v bit (pressed ((frameView s).get k) bit)).getLsbD bit = !(s.frame.get k).getLsbD bit := by
  rw [setBit_getLsbD_same, frameView_readable hv hb, pressed, bitOf]

theorem afterFrameView_freeCtr {s : State} (hv : s.frameValid = true) (hb : s.busy = false) :
    (afterFrameView s).freeCtr = s.freeCtr := by
  rw [afterFrameView_readable hv hb]

/-- R23: a row of frame byte 3 writes BTN_A and at most the count of free bytes. -/
theorem writeFlagA_eq (bit : Fin 8) (s : State) : writeFlagA bit s =
    { s with btnA := setBit s.btnA bit (pressed ((frameView s).get 3) bit), freeCtr := (afterFrameView s).freeCtr } := by
  obtain ⟨free, h⟩ := afterFrameView_eq s
  rw [writeFlagA, h]

/-- R24: a row of frame byte 4 writes BTN_B and at most the count of free bytes. -/
theorem writeFlagB_eq (bit : Fin 8) (s : State) : writeFlagB bit s =
    { s with btnB := setBit s.btnB bit (pressed ((frameView s).get 4) bit), freeCtr := (afterFrameView s).freeCtr } := by
  obtain ⟨free, h⟩ := afterFrameView_eq s
  rw [writeFlagB, h]

/-- Settles O25: the rows of each byte are those of its bits 0 to 7, and each is a `setBit` of its own bit. -/
theorem buttonRowsWriteTheirFlag : Obligations.ButtonRowsWriteTheirFlag := by
  intro s
  refine ⟨fun p hp => ?_, fun p hp => ?_⟩
  · change p ∈ (List.finRange 8).map fun bit => (buttonARow bit, bit) at hp
    obtain ⟨bit, -, rfl⟩ := List.mem_map.mp hp
    refine ⟨_, exec_buttonARow bit s, ?_⟩
    rw [writeFlagA_eq]
    exact ⟨rfl, fun j hj => setBit_getLsbD_ne _ hj _,
      fun hv hb => ⟨setBit_pressed_frameView hv hb _ 3 bit, afterFrameView_freeCtr hv hb⟩⟩
  · change p ∈ (List.finRange 8).map fun bit => (buttonBRow bit, bit) at hp
    obtain ⟨bit, -, rfl⟩ := List.mem_map.mp hp
    refine ⟨_, exec_buttonBRow bit s, ?_⟩
    rw [writeFlagB_eq]
    exact ⟨rfl, fun j hj => setBit_getLsbD_ne _ hj _,
      fun hv hb => ⟨setBit_pressed_frameView hv hb _ 4 bit, afterFrameView_freeCtr hv hb⟩⟩

/-! ## The modes (R71, R144, R145) -/

theorem exec_modeDigital (s : State) : exec .modeDigital s = .next (writeAxes none s) := rfl

theorem exec_modeAnalog (v : Byte) (s : State) :
    exec (.modeAnalog v) s = .next (writeAxes (some (frameAxes (frameView s))) (afterFrameView s)) := rfl

/-- Settles O26: the axes of the analog row are those of the frame as it is seen. -/
theorem modeRowsWriteAxes : Obligations.ModeRowsWriteAxes := by
  intro s v
  refine ⟨⟨_, exec_modeDigital s, rfl⟩, fun _ => ⟨_, exec_modeAnalog v s, ?_, fun hv hb => ?_⟩⟩
  · obtain ⟨free, h⟩ := afterFrameView_eq s
    rw [h]
    rfl
  · rw [frameView_readable hv hb, afterFrameView_readable hv hb]
    exact ⟨rfl, rfl, rfl, rfl, rfl⟩

end Sys2Proof.Machine
end

section
/-! PROOFS. A POLL cycle (30_encoding R77, R78): a bound on the steps an operation still takes that every step of the sequencer lowers
(42_frame_transaction R129), what a running transaction keeps and how it ends, and the host's lines around it. -/

namespace Sys2Proof.Machine

/-! ## The steps an operation still takes (R129) -/

/-- The samples of `ACK` taken so far leave room for those to come (R103): what `stepsLeft` needs of a state. -/
def PollsFit (s : State) : Prop :=
  (s.ph.inCell = true → s.n = 0) ∧ (s.ph = .aPoll → s.n < Config.ackPollMax) ∧ (s.ph = .aWait → s.n ≤ Config.ackPollMax)

/-- The steps after exchange `k` of a transaction at most: 149 for each exchange to come, two for the epilogue. -/
def stepsAfterExchange (k : Fin Config.frameLen) : Nat :=
  149 * (8 - k.val) + 2

/-- At most so many steps are left of the running operation (R129): of an exchange six for each bit cell to come and two for each sample, then
`stepsAfterExchange` (a stand-alone exchange ends before). -/
def stepsLeft (s : State) : Nat :=
  match s.ph with
  | .idle => 0
  | .tCmdIdle => 1347
  | .tClkIdle => 1346
  | .tSelOn => 1345
  | .tSetup => 1344
  | .xLoad => 149 + stepsAfterExchange s.k
  | .bPre => 6 * (8 - s.i.val) + 100 + stepsAfterExchange s.k
  | .bCmd => 6 * (8 - s.i.val) + 99 + stepsAfterExchange s.k
  | .bClkLo => 6 * (8 - s.i.val) + 98 + stepsAfterExchange s.k
  | .bLow => 6 * (8 - s.i.val) + 97 + stepsAfterExchange s.k
  | .bSample => 6 * (8 - s.i.val) + 96 + stepsAfterExchange s.k
  | .bClkHi => 6 * (8 - s.i.val) + 95 + stepsAfterExchange s.k
  | .aPoll => 2 * (50 - s.n) + stepsAfterExchange s.k
  | .aWait => 2 * (50 - s.n) + 1 + stepsAfterExchange s.k
  | .xOk => 1 + stepsAfterExchange s.k
  | .xFail => 1
  | .tCmdEnd => 2
  | .tSelOff => 1

theorem seqNext_pollsFit {s : State} (h : PollsFit s) : PollsFit (seqNext s) := by
  have ⟨hcell, hpoll, hwait⟩ := h
  cases hp : s.ph <;> simp only [seqNext, hp] <;> rw [hp] at hcell hpoll hwait
  case idle => exact h
  case tCmdIdle | tClkIdle | tSelOn | tSetup | xFail | tCmdEnd | tSelOff => exact ⟨nofun, nofun, nofun⟩
  case xLoad => exact ⟨fun _ => rfl, nofun, nofun⟩
  case bPre | bCmd | bClkLo | bLow | bSample =>
    have hn : s.n = 0 := hcell rfl
    exact ⟨fun _ => hn, nofun, nofun⟩
  case bClkHi =>
    have hn : s.n = 0 := hcell rfl
    unfold stepBClkHi
    split
    · exact ⟨fun _ => hn, nofun, nofun⟩
    · exact ⟨nofun, fun _ => hn.trans_lt (by decide), nofun⟩
  case aPoll =>
    have hn : s.n < Config.ackPollMax := hpoll rfl
    unfold stepAPoll
    split
    · exact ⟨nofun, nofun, fun _ => hn⟩
    · exact ⟨nofun, nofun, nofun⟩
  case aWait =>
    have hn : s.n ≤ Config.ackPollMax := hwait rfl
    unfold stepAWait
    split
    · exact ⟨nofun, nofun, nofun⟩
    · exact ⟨nofun, fun _ => lt_of_le_of_ne hn ‹_›, nofun⟩
  case xOk =>
    split
    · unfold storeReceived
      split <;> exact ⟨nofun, nofun, nofun⟩
    · exact ⟨nofun, nofun, nofun⟩

/-- R126: every step of a running operation is one of the steps left. -/
theorem stepsLeft_seqNext_lt {s : State} (h : PollsFit s) (hidle : s.ph ≠ .idle) : stepsLeft (seqNext s) < stepsLeft s := by
  obtain ⟨-, hpoll, -⟩ := h
  have hk : s.k.val < 9 := s.k.isLt
  have hi : s.i.val < 8 := s.i.isLt
  cases hp : s.ph <;> simp only [seqNext, hp] <;> rw [hp] at hpoll
  case idle => exact absurd hp hidle
  case tCmdIdle | tClkIdle | tSelOn | bPre | bCmd | bClkLo | bLow | tCmdEnd | tSelOff => simp [stepsLeft, hp]
  case tSetup => simp [stepsLeft, hp, stepsAfterExchange]
  case xLoad => simp [stepsLeft, hp, loadExchange]
  case bSample => simp [stepsLeft, hp, sampleBit]
  case xFail => simp [stepsLeft, hp, raiseAckTimeout]
  case bClkHi =>
    unfold stepBClkHi
    split <;> simp only [stepsLeft, hp, lineWrite_k, lineWrite_n] <;> omega
  case aPoll =>
    have hn : s.n < 50 := hpoll rfl
    unfold stepAPoll
    cases ackNow s <;> simp only [stepsLeft, hp, pollAck, readAck_k, if_true, if_false, Bool.false_eq_true] <;> omega
  case aWait =>
    unfold stepAWait
    split <;> simp only [stepsLeft, hp, delay_k, delay_n, stepsAfterExchange] <;> omega
  case xOk =>
    split
    · by_cases hlt : s.k.val + 1 < 9
      · simp only [storeReceived_of_lt hlt, stepsLeft, hp, stepsAfterExchange]
        omega
      · have hlast : s.k = 8 := Fin.ext (show s.k.val = 8 by omega)
        simp [hlast, storeReceived_last, stepsLeft, hp, stepsAfterExchange]
    · simp [stepsLeft, hp]

/-! ## A transaction from its start to its end -/

/-- `u` is inside a transaction that was accepted in `s` (R120, R14, R30 (7)). -/
structure TransactionRuns (s u : State) : Prop where
  op : u.opRun = .txn
  running : u.ph ≠ .idle
  status : statusOf u = (true, false, false, false, 0#4)
  no_frame : u.frameValid = false
  pad : padOf u = padOf s

/-- `u` is where a transaction that was accepted in `s` has ended: with a frame, or with the error (R123, R124). -/
structure TransactionEnded (s u : State) : Prop where
  idle : u.busy = false
  done : u.done = true
  accepted : u.refused = false
  frame_or_error : u.frameValid = !u.err
  pad : padOf u = padOf s

theorem transactionRuns_startTransaction (s : State) : TransactionRuns s (startTransaction s) :=
  ⟨rfl, nofun, rfl, rfl, rfl⟩

theorem storeReceived_runs {s u : State} (h : TransactionRuns s u) (k : Fin Config.frameLen) (v : Byte) :
    TransactionRuns s (storeReceived k v u) := by
  obtain ⟨hop, -, hstatus, hframe, hpad⟩ := h
  unfold storeReceived
  split <;> exact ⟨hop, nofun, hstatus, hframe, hpad⟩

/-- The end of an operation (R8) leaves all flags but `BUSY` and `DONE`. -/
theorem complete_ended {s u : State} (hr : u.refused = false) (hfe : u.frameValid = !u.err) (hpad : padOf u = padOf s) :
    TransactionEnded s (complete u) :=
  ⟨rfl, rfl, hr, hfe, hpad⟩

/-- R126: a transaction goes on, or ends after its epilogue or with the error. -/
theorem seqNext_runs_or_ended {s u : State} (h : TransactionRuns s u) :
    TransactionRuns s (seqNext u) ∨ TransactionEnded s (seqNext u) := by
  have ⟨hop, hidle, hstatus, hframe, hpad⟩ := h
  cases hgo : u.ph.goesOn with
  | true =>
    obtain ⟨hrun, hop', hstatus', hframe', -⟩ := seqNext_sameOperation hgo
    exact .inl ⟨hop'.trans hop, hrun, hstatus'.trans hstatus, hframe'.trans hframe, (seqNext_padOf u).trans hpad⟩
  | false =>
    simp only [statusOf, Prod.mk.injEq] at hstatus
    obtain ⟨-, -, herr, hrefused, -⟩ := hstatus
    cases hp : u.ph <;> simp only [seqNext, hp]
    case idle => exact absurd hp hidle
    case xOk =>
      rw [if_pos hop]
      exact .inl (storeReceived_runs h u.k u.rxb)
    case xFail => exact .inr (complete_ended hrefused hframe hpad)
    case tSelOff => exact .inr (complete_ended hrefused (congrArg (!·) herr).symm hpad)
    all_goals simp [hp, Phase.goesOn] at hgo

/-! ## The lines of the host around it (R77, R78) -/

theorem run_of_step {s t : State} (h : step s = .next t) (m : Nat) : run (m + 1) s = run m t := by
  rw [run_eq, h]

theorem seqNext_script (s : State) : (seqNext s).script = s.script := by
  have h := congrArg State.script (seqNext_outside s s.script s.rdData)
  exact h

/-- R77: WAIT lets a transaction run to its end, one step of the sequencer at a time. -/
theorem wait_runs_to_end {s : State} {rest : List HostLine} (bound : Nat) {u : State} (hu : TransactionRuns s u) (hfit : PollsFit u)
    (hbound : stepsLeft u ≤ bound) (hscript : u.script = .wait :: rest) :
    ∃ m t, m ≤ bound ∧ run m u = .next t ∧ TransactionEnded s t ∧ t.script = .wait :: rest := by
  induction bound generalizing u with
  | zero =>
    have hlt := stepsLeft_seqNext_lt hfit hu.running
    omega
  | succ bound ih =>
    have hbusy : u.busy = true := congrArg Prod.fst hu.status
    have hread : TransactionRuns s { u with rdData := statusByte u } := { hu with }
    have hstep : step u = .next (seqNext { u with rdData := statusByte u }) := by
      rw [(waitLastsWhileBusy u rest hscript).1 hbusy]
      exact seqStep_next fun _ hnone => nomatch hu.op.symm.trans hnone
    have hnext : (seqNext { u with rdData := statusByte u }).script = .wait :: rest := (seqNext_script _).trans hscript
    obtain hruns | hended := seqNext_runs_or_ended hread
    · have hlt : stepsLeft (seqNext { u with rdData := statusByte u }) < stepsLeft u := stepsLeft_seqNext_lt hfit hu.running
      obtain ⟨m, t, hm, hrun, ht⟩ := ih hruns (seqNext_pollsFit hfit) (by omega) hnext
      exact ⟨m + 1, t, by omega, (run_of_step hstep m).trans hrun, ht⟩
    · exact ⟨1, _, by omega, run_of_step hstep 0, hended, hnext⟩

/-- R78: the conditional write is skipped when `ERR` = 1, else it is the write. -/
theorem step_wrIfOk_cmd {s : State} {v : Byte} {rest : List HostLine} (hs : s.script = .wrIfOk 0x00#5 v :: rest) : step s =
    if s.err then .next { s with script := rest, rdData := statusByte s }
    else exec (decodeHcmd v) { s with script := rest, rdData := statusByte s } :=
  step_of_line hs

/-- R140: an accepted DECODE is done at once, with a valid state and the frame consumed. -/
theorem decoded_ends (s : State) : (decoded s).script = s.script ∧ (decoded s).done = true ∧ (decoded s).refused = false ∧
    (decoded s).frameValid = false ∧ (decoded s).err = false ∧ (decoded s).stateValid = true := by
  obtain ⟨lx, ly, rx, ry, free, h⟩ := decoded_eq s
  rw [h]
  exact ⟨rfl, rfl, rfl, rfl, rfl, rfl⟩

/-- R140: what DECODE leaves in the STATE registers, said of the frame it leaves. -/
theorem decoded_holds_frame {s : State} (hb : s.busy = false) (hf : s.frameValid = true) :
    (decoded s).btnA = ~~~((decoded s).frame.get 3) ∧ (decoded s).btnB = ~~~((decoded s).frame.get 4) ∧
    ((decoded s).analog = false ↔ (decoded s).frame.get 1 = Config.digitalModeSentinel) ∧
    ((decoded s).analog = true → (decoded s).lx = (decoded s).frame.get 7 ∧ (decoded s).ly = (decoded s).frame.get 8 ∧
      (decoded s).rx = (decoded s).frame.get 5 ∧ (decoded s).ry = (decoded s).frame.get 6) := by
  by_cases hmode : s.frame.get 1 = Config.digitalModeSentinel
  · obtain ⟨lx, ly, rx, ry, free, h⟩ := decoded_eq s
    rw [decodeFrame_axes_digital hmode] at h
    rw [h]
    exact ⟨rfl, rfl, ⟨fun _ => hmode, fun _ => rfl⟩, nofun⟩
  · have h := (exec_decode_accepted hb hf).symm.trans (decodeInAnalogMode s hb hf hmode)
    injection h with h
    rw [h]
    exact ⟨rfl, rfl, ⟨nofun, fun hc => absurd hc hmode⟩, fun _ => ⟨rfl, rfl, rfl, rfl⟩⟩

/-- R78: a POLL cycle up to its conditional write: two steps to the running transaction, at most 1347 to its end, and one that ends WAIT. -/
theorem poll_reaches_conditional_write {s : State} (hs : s.script = [.poll]) (hb : s.busy = false) :
    ∃ m t, m ≤ 1350 ∧ run m s = .next t ∧ TransactionEnded s t ∧ t.script = [.wrIfOk 0x00#5 0x07#8] := by
  let s' : State := { s with script := [.wait, .wrIfOk 0x00#5 0x07#8] }
  have hpoll : step s = .next { s with script := pollScript } := step_of_line hs
  have hwrite : step { s with script := pollScript } = .next (startTransaction s') :=
    (stepRunsTheCommandWritten _ 0x06#8 .runTransaction _ rfl rfl).trans (hostCommand_idle (s := s') hb _)
  obtain ⟨m, t, hm, hrun, hended, hscript⟩ :=
    wait_runs_to_end 1347 (transactionRuns_startTransaction s') ⟨nofun, nofun, nofun⟩ le_rfl rfl
  have hwait := (waitLastsWhileBusy t _ hscript).2 hended.idle
  refine ⟨m + 1 + 2, { t with rdData := statusByte t, script := [.wrIfOk 0x00#5 0x07#8] }, by omega, ?_, { hended with }, rfl⟩
  rw [run_of_step hpoll, run_of_step hwrite, run_add hrun, run_of_step hwait, run_zero]

/-- Settles O40: the conditional write after the transaction is skipped with the error, and else runs DECODE on the new frame. -/
theorem pollEndsDecodedOrUnchanged : Obligations.PollEndsDecodedOrUnchanged := by
  intro s hs hb
  obtain ⟨m, t, hm, hrun, ⟨hidle, hdone, hrefused, hframe, hpad⟩, hscript⟩ := poll_reaches_conditional_write hs hb
  have hlast := step_wrIfOk_cmd hscript
  have hend {u : State} (hu : step t = .next u) : run (m + 1) s = .next u := by
    rw [run_add hrun, run_of_step hu, run_zero]
  cases herr : t.err with
  | true =>
    rw [if_pos herr] at hlast
    rw [herr] at hframe
    exact ⟨m + 1, _, by omega, hend hlast, rfl, hidle, hdone, hrefused, hframe, .inr ⟨herr, hpad⟩⟩
  | false =>
    rw [if_neg (by simp [herr])] at hlast
    rw [herr] at hframe
    let t' : State := { t with script := [], rdData := statusByte t }
    have hdecode : exec .decode t' = .next (decoded t') := exec_decode_accepted hidle hframe
    obtain ⟨hscript', hdone', hrefused', hframe', herr', hvalid⟩ := decoded_ends t'
    exact ⟨m + 1, decoded t', by omega, hend (hlast.trans hdecode), hscript', (decoded_busy t').trans hidle, hdone', hrefused', hframe',
      .inl ⟨herr', hvalid, decoded_holds_frame hidle hframe⟩⟩

end Sys2Proof.Machine
end

section
/-! PROOFS. The Bit Clock Driver (40_bit_clock_driver R90 to R95): each of the five line operations as a command word with one accepted
state, what the accepted states share, and the levels on the pins. -/

namespace Sys2Proof.Machine

/-! ## The five operations -/

/-- The state an accepted SET_CLOCK, SET_SELECT or SET_COMMAND leads to, by its line (R91, R92, R93). -/
def lineDriven (l : OutLine) (s : State) : State :=
  finish (lineWrite l (argBit s) (accept s))

/-- The state an accepted READ_DATA leads to (R94). -/
def datReturned (s : State) : State :=
  finish (setResult (zextBit (datNow s)) (readDat (accept s)))

/-- The state an accepted READ_ACK leads to (R95). -/
def ackReturned (s : State) : State :=
  finish (setResult (zextBit (ackNow s)) (readAck (accept s)))

/-- The line operations, each with the state its acceptance leads to from `s` (R90). -/
inductive LineOperation (s : State) : Instr → State → Prop where
  | setClock : LineOperation s .setClock (lineDriven .clk s)
  | setSelect : LineOperation s .setSelect (lineDriven .sel s)
  | setCommand : LineOperation s .setCommand (lineDriven .cmd s)
  | readData : LineOperation s .readData (datReturned s)
  | readAck : LineOperation s .readAck (ackReturned s)

theorem lineOperation_of_mem {i : Instr} (hi : i ∈ [Instr.setClock, .setSelect, .setCommand, .readData, .readAck]) (s : State) :
    ∃ accepted, LineOperation s i accepted := by
  simp only [List.mem_cons, List.not_mem_nil, or_false] at hi
  obtain rfl | rfl | rfl | rfl | rfl := hi
  · exact ⟨_, .setClock⟩
  · exact ⟨_, .setSelect⟩
  · exact ⟨_, .setCommand⟩
  · exact ⟨_, .readData⟩
  · exact ⟨_, .readAck⟩

theorem hostCommand_busy {s : State} (hb : s.busy = true) (accepted : State) : hostCommand s accepted = .next (refuse s) := by
  simp [hostCommand, hb]

theorem LineOperation.exec_eq {i : Instr} {s accepted : State} (h : LineOperation s i accepted) : exec i s = hostCommand s accepted := by
  cases h <;> rfl

theorem LineOperation.exec_idle {i : Instr} {s accepted : State} (h : LineOperation s i accepted) (hb : s.busy = false) :
    exec i s = .next accepted :=
  h.exec_eq.trans (hostCommand_idle hb accepted)

theorem LineOperation.exec_busy {i : Instr} {s accepted : State} (h : LineOperation s i accepted) (hb : s.busy = true) :
    exec i s = .next (refuse s) :=
  h.exec_eq.trans (hostCommand_busy hb accepted)

/-! ## What they leave unchanged -/

/-- `t` is `s` but for what some line operation writes: a line, a sample taken, `RESULT`, the trace and the flags other than `BUSY` (R90). -/
def OnlyLineOperationChanges (s t : State) : Prop :=
  t = { s with
    clk := t.clk, cmd := t.cmd, sel := t.sel, datIn := t.datIn, ackIn := t.ackIn, result := t.result, resultKnown := t.resultKnown
    trace := t.trace, done := t.done, err := t.err, refused := t.refused, errIndex := t.errIndex }

theorem OnlyLineOperationChanges.congr {α : Type} {s t : State} (h : OnlyLineOperationChanges s t) (f : State → α) :
    f t = f { s with
      clk := t.clk, cmd := t.cmd, sel := t.sel, datIn := t.datIn, ackIn := t.ackIn, result := t.result, resultKnown := t.resultKnown
      trace := t.trace, done := t.done, err := t.err, refused := t.refused, errIndex := t.errIndex } :=
  congrArg f h

theorem refuse_onlyLineOperationChanges (s : State) : OnlyLineOperationChanges s (refuse s) := rfl

theorem LineOperation.onlyLineOperationChanges {i : Instr} {s t : State} (h : LineOperation s i t) : OnlyLineOperationChanges s t := by
  cases h <;> rfl

/-- Of the lines, the samples and `RESULT`, `i` has left in `t` what is not its own (R90). -/
structure KeepsOtherLines (i : Instr) (s t : State) : Prop where
  clk : i ≠ .setClock → t.clk = s.clk
  cmd : i ≠ .setCommand → t.cmd = s.cmd
  sel : i ≠ .setSelect → t.sel = s.sel
  datIn : i ≠ .readData → t.datIn = s.datIn
  ackIn : i ≠ .readAck → t.ackIn = s.ackIn
  result : i ≠ .readData → i ≠ .readAck → t.result = s.result ∧ t.resultKnown = s.resultKnown

theorem refuse_keepsOtherLines (i : Instr) (s : State) : KeepsOtherLines i s (refuse s) := by
  constructor <;> simp

theorem LineOperation.keepsOtherLines {i : Instr} {s t : State} (h : LineOperation s i t) : KeepsOtherLines i s t := by
  cases h with
  | setClock | setSelect | setCommand => constructor <;> simp [lineDriven]
  | readData => constructor <;> simp [datReturned]
  | readAck => constructor <;> simp [ackReturned]

/-- An accepted line operation is done at once, without error and with one event (R17, R90). -/
theorem LineOperation.ends {i : Instr} {s t : State} (h : LineOperation s i t) :
    t.done = true ∧ t.err = false ∧ ∃ e, t.trace = e :: s.trace := by
  cases h <;> exact ⟨rfl, rfl, _, rfl⟩

/-- Settles O28: a refusal sets `REFUSED` alone, and the accepted states change only what is their own. -/
theorem frameOfTheLineOperations : Obligations.FrameOfTheLineOperations := by
  intro i hi s t h
  obtain ⟨accepted, hop⟩ := lineOperation_of_mem hi s
  have ⟨honly, hkeep, hends⟩ : OnlyLineOperationChanges s t ∧ KeepsOtherLines i s t ∧
      (s.busy = false → t.done = true ∧ t.err = false ∧ ∃ e, t.trace = e :: s.trace) := by
    cases hb : s.busy with
    | true =>
      cases (hop.exec_busy hb).symm.trans h
      exact ⟨refuse_onlyLineOperationChanges s, refuse_keepsOtherLines i s, nofun⟩
    | false =>
      cases (hop.exec_idle hb).symm.trans h
      exact ⟨hop.onlyLineOperationChanges, hop.keepsOtherLines, fun _ => hop.ends⟩
  exact ⟨honly.congr frameOf, honly.congr shiftOf, honly.congr positionOf, honly.congr padOf, honly.congr State.arg,
    honly.congr State.busy, honly.congr State.script, honly.congr State.rdData, honly.congr State.freeCtr,
    hkeep.clk, hkeep.cmd, hkeep.sel, hkeep.datIn, hkeep.ackIn, hkeep.result, hends⟩

/-! ## The lines written -/

theorem pinLevel_sel (s : State) : pinLevel .sel s = if s.sel then Config.selActiveLevel else !Config.selActiveLevel := rfl

/-- Settles O9: each is the command word of its own line. -/
theorem lineWritesDriveTheirLatch : Obligations.LineWritesDriveTheirLatch := by
  intro s
  refine ⟨fun hb => ⟨?_, ?_, ?_⟩, fun hb => ⟨?_, ?_, ?_⟩, fun hsel => ?_, fun hsel => ?_⟩
  · exact LineOperation.setClock.exec_idle hb
  · exact LineOperation.setSelect.exec_idle hb
  · exact LineOperation.setCommand.exec_idle hb
  · exact LineOperation.setClock.exec_busy hb
  · exact LineOperation.setSelect.exec_busy hb
  · exact LineOperation.setCommand.exec_busy hb
  · simp [pinLevel_sel, hsel]
  · simp [pinLevel_sel, hsel]

/-! ## The lines sampled -/

theorem zextBit_eq (b : Bool) : zextBit b = if b then 0x01#8 else 0x00#8 := by
  cases b <;> rfl

theorem datReturned_eq (s : State) : datReturned s = { s with
    result := if datNow s then 0x01#8 else 0x00#8, resultKnown := true, datIn := s.datIn.tail
    trace := .read .dat (datNow s) :: s.trace, done := true, err := false, refused := false, errIndex := 0#4 } := by
  rw [← zextBit_eq]
  rfl

theorem ackReturned_eq (s : State) : ackReturned s = { s with
    result := if ackNow s then 0x01#8 else 0x00#8, resultKnown := true, ackIn := s.ackIn.tail
    trace := .read .ack (ackNow s) :: s.trace, done := true, err := false, refused := false, errIndex := 0#4 } := by
  rw [← zextBit_eq]
  rfl

/-- Settles O10: the sample taken is the one `RESULT` and the trace show, and it is the next of the line's samples where one is listed. -/
theorem lineReadsReturnTheSample : Obligations.LineReadsReturnTheSample := by
  intro s
  refine ⟨fun hb => ⟨?_, ?_⟩, fun hb => ⟨?_, ?_⟩, fun b bs => ⟨?_, ?_⟩, fun b => ⟨rfl, rfl⟩⟩
  · rw [LineOperation.readData.exec_idle hb, datReturned_eq]
  · rw [LineOperation.readAck.exec_idle hb, ackReturned_eq]
  · exact LineOperation.readData.exec_busy hb
  · exact LineOperation.readAck.exec_busy hb
  · exact datNow_cons s b bs
  · exact ackNow_cons s b bs

end Sys2Proof.Machine
end

section
/-! PROOFS. A byte exchange with a device that lists its samples (41_byte_exchange R103 to R107): what the acknowledgement wait leaves,
whether it ends with an inactive sample or with the last one allowed, and the event counts and durations of its traces. -/

namespace Sys2Proof.Machine

/-! ## The acknowledgement wait -/

/-- `s` after `m` samples of `ACK` that read active, each with its delay, `as` being the samples listed after them (R103). -/
def afterActivePolls (m : Nat) (as : List Bool) (s : State) : State :=
  { s with n := s.n + m, ackIn := as, trace := (activePolls m).reverse ++ s.trace }

theorem pollAck_of_listed {s : State} {b : Bool} {as : List Bool} (h : s.ackIn = b :: as) :
    pollAck s = { s with n := s.n + 1, ackIn := as, trace := .read .ack b :: s.trace } := by
  simp only [pollAck, readAck, emit, ackNow_cons s b as h, h, List.tail_cons]

/-- One active sample more (R103). -/
theorem afterActivePolls_succ (m : Nat) (as : List Bool) (s : State) :
    delay Config.tHalf (pollAck (afterActivePolls m (true :: as) s)) = afterActivePolls (m + 1) as s := by
  simp only [afterActivePolls, activePolls_succ_reverse]
  rfl

theorem ackWait_of_active {s : State} (h : ackNow s = true) (polls : Nat) :
    ackWait (polls + 1) s = ackWait polls (delay Config.tHalf (pollAck s)) :=
  if_pos h

theorem ackWait_of_inactive {s : State} (h : ackNow s = false) (polls : Nat) : ackWait (polls + 1) s = (pollAck s, true) :=
  if_neg (by simp [h])

/-- The wait passes over the active samples a device lists (R103). -/
theorem ackWait_of_activePolls (m : Nat) {s : State} {as : List Bool} (h : s.ackIn = List.replicate m true ++ as) (polls : Nat) :
    ackWait (m + polls) s = ackWait polls (afterActivePolls m as s) := by
  induction m generalizing as polls with
  | zero =>
    have has : s.ackIn = as := h
    rw [Nat.zero_add, afterActivePolls, ← has]
    rfl
  | succ m ih =>
    have hfirst : s.ackIn = List.replicate m true ++ true :: as := by simp [h, List.replicate_succ']
    have hlast : ackNow (afterActivePolls m (true :: as) s) = true := ackNow_cons _ true as rfl
    rw [Nat.add_assoc, Nat.add_comm 1, ih hfirst, ackWait_of_active hlast, afterActivePolls_succ]

/-- R104: the first inactive sample ends the wait with success. -/
theorem ackWait_success {m polls : Nat} (hm : m < polls) {s : State} {as : List Bool}
    (h : s.ackIn = List.replicate m true ++ false :: as) : ackWait polls s =
      ({ s with n := s.n + (m + 1), ackIn := as, trace := (activePolls m ++ [Event.read .ack false]).reverse ++ s.trace }, true) := by
  obtain ⟨left, rfl⟩ := Nat.exists_eq_add_of_lt hm
  have hlast : (afterActivePolls m (false :: as) s).ackIn = false :: as := rfl
  rw [Nat.add_assoc, ackWait_of_activePolls m h, ackWait_of_inactive (ackNow_cons _ false as hlast), pollAck_of_listed hlast, List.reverse_append]
  rfl

/-- R103: as many active samples as the wait may take end it without success. -/
theorem ackWait_timeout {polls : Nat} {s : State} {as : List Bool} (h : s.ackIn = List.replicate polls true ++ as) :
    ackWait polls s = (afterActivePolls polls as s, false) :=
  ackWait_of_activePolls polls h 0

/-! ## The exchange -/

/-- The cells of an exchange with a device that presents `v` (R72, R101): up to the acknowledgement wait they are those of `sendByte`. -/
theorem byteCells_of_device (out v : Byte) (ds : List Bool) {s : State} (hds : s.datIn = wireBits v ++ ds) :
    byteCells (loadByte out s) = { s with
      txb := out, rxb := v, i := 7, n := 0, clk := true, cmd := out.getLsbD 7, datIn := ds
      trace := (cellsEvents out v).reverse ++ s.trace } := by
  obtain ⟨w, hdevice, hcells⟩ := byteCells_eq (loadByte out s)
  rw [hcells, hdevice v ds hds, loadByte_datIn, hds, List.drop_left' (wireBits_length v)]
  rfl

theorem cellsEvents_length (out rx : Byte) : (cellsEvents out rx).length = 48 := rfl

theorem activePolls_length (m : Nat) : (activePolls m).length = 2 * m := by
  simp [activePolls, Nat.mul_comm]

/-- R107: two clock-delays in each cell. -/
theorem elapsed_flatMap_cellEvents (out rx : Byte) (js : List (Fin 8)) : elapsed (js.flatMap (cellEvents out rx)) = 20 * js.length := by
  induction js with
  | nil => rfl
  | cons j js ih =>
    rw [List.flatMap_cons, elapsed_append, ih, List.length_cons, show elapsed (cellEvents out rx j) = 20 from rfl]
    omega

theorem elapsed_cellsEvents (out rx : Byte) : elapsed (cellsEvents out rx) = 160 :=
  elapsed_flatMap_cellEvents out rx (List.finRange 8)

/-- R107: a half-clock-delay for each active sample. -/
theorem elapsed_activePolls (m : Nat) : elapsed (activePolls m) = 5 * m := by
  induction m with
  | zero => rfl
  | succ m ih =>
    have hnext : activePolls (m + 1) = .read .ack true :: .delay 5 :: activePolls m := by simp [activePolls, List.replicate_succ]
    rw [hnext, elapsed, elapsed, ih]
    omega

/-- Settles O22, by `byteCells_of_device` for the cells and `ackWait_success` for the wait. -/
theorem exchangeReceivesTheDeviceByte : Obligations.ExchangeReceivesTheDeviceByte := by
  intro s out v m ds as hm hds has
  refine ⟨?_, ?_, ?_⟩
  · have hcells := byteCells_of_device out v ds hds
    have hack := (congrArg State.ackIn hcells).trans has
    rw [exec_wbyte, exchangeByte, Config.ackPollMax, ackWait_success hm hack, hcells]
    simp [settleExchange, successEvents]
  · simp only [successEvents, List.length_append, cellsEvents_length, activePolls_length, List.length_singleton]
    omega
  · simp [successEvents, elapsed_append, elapsed_cellsEvents, elapsed_activePolls, elapsed]

/-- Settles O23, by `byteCells_of_device` for the cells and `ackWait_timeout` for the wait. -/
theorem exchangeFailsAfterFiftyPolls : Obligations.ExchangeFailsAfterFiftyPolls := by
  intro s out v ds as hds has
  refine ⟨?_, ?_, ?_⟩
  · have hcells := byteCells_of_device out v ds hds
    have hack := (congrArg State.ackIn hcells).trans has
    rw [exec_wbyte, exchangeByte, Config.ackPollMax, ackWait_timeout hack, hcells]
    simp [settleExchange, afterActivePolls, timeoutEvents]
  · rw [timeoutEvents, List.length_append, cellsEvents_length, activePolls_length]
  · rw [timeoutEvents, elapsed_append, elapsed_cellsEvents, elapsed_activePolls]

end Sys2Proof.Machine
end

section
/-! PROOFS. What the many-step operations and the rows inside them leave unchanged (R100, R101, R120, R122, R126). -/

namespace Sys2Proof.Machine

/-! ## The acceptance of a many-step operation -/

/-- `t` is `s` but for what some acceptance of EXCHANGE_BYTE or RUN_TRANSACTION writes, or a refusal of it (R100, R120, R161). -/
def OnlyStartChanges (s t : State) : Prop :=
  t = { s with
    opRun := t.opRun, ph := t.ph, txb := t.txb, frameValid := t.frameValid, busy := t.busy, done := t.done, err := t.err
    refused := t.refused, errIndex := t.errIndex }

/-- Settles O29, by the refusal and the accepted state of each of the two. -/
theorem frameOfTheManyStepOperations : Obligations.FrameOfTheManyStepOperations := by
  intro i hi s t h
  have ⟨honly, hframe, htxb⟩ : OnlyStartChanges s t ∧ (i = .exchangeByte → t.frameValid = s.frameValid) ∧
      (i = .runTransaction → t.txb = s.txb) := by
    simp only [List.mem_cons, List.not_mem_nil, or_false] at hi
    obtain rfl | rfl := hi
    · obtain rfl | ⟨-, rfl⟩ := hostCommand_inv (exec_exchangeByte s ▸ h) <;> exact ⟨rfl, fun _ => rfl, nofun⟩
    · obtain rfl | ⟨-, rfl⟩ := hostCommand_inv (exec_runTransaction s ▸ h) <;> exact ⟨rfl, nofun, fun _ => rfl⟩
  unfold OnlyStartChanges at honly
  have hkeep {α : Type} (f : State → α) := congrArg f honly
  have houtside : SameOutside s t :=
    ⟨hkeep State.script, hkeep State.datIn, hkeep State.ackIn, hkeep State.trace, hkeep State.rdData⟩
  exact ⟨hkeep linesOf, hkeep operandsOf, hkeep padOf, houtside, hkeep State.freeCtr, hkeep State.rxb, hkeep State.frame,
    hkeep State.k, hkeep State.i, hkeep State.n, hframe, htxb⟩

/-! ## The rows of what is sent and received -/

theorem loadByte_keeps (out : Byte) (s : State) : ExchangeKeeps s (loadByte out s) :=
  ⟨rfl, rfl, rfl, rfl, rfl, rfl, rfl, rfl, rfl, rfl⟩

/-- The control point is none of what an exchange keeps. -/
theorem ExchangeKeeps.at_phase {s t : State} (h : ExchangeKeeps s t) (p : Phase) : ExchangeKeeps s { t with ph := p } :=
  h

theorem sendByte_keeps (out : Byte) (s : State) : ExchangeKeeps s (sendByte out s) :=
  ((loadByte_keeps out s).trans (byteCells_keeps _)).at_phase .aPoll

theorem loadExchange_keeps (out : Byte) (s : State) : ExchangeKeeps s (loadExchange out s) :=
  (loadByte_keeps out s).at_phase .bPre

/-- The rows that send: WBYTE, those of R66 and those of R65. -/
theorem sendingRow_keeps {out : Byte} {i : Instr}
    (hi : i ∈ [Instr.wbyte out, .wcmdStart, .wcmdPoll, .wcmdPad] ++ (List.finRange Config.frameLen).map txSeqRow) (s : State) :
    ∃ u, exec i s = .next u ∧ ExchangeKeeps s u := by
  simp only [List.mem_append, List.mem_cons, List.not_mem_nil, or_false, List.mem_map] at hi
  obtain (rfl | rfl | rfl | rfl) | ⟨k, -, rfl⟩ := hi
  · exact ⟨_, exec_wbyte out s, exchangeByte_keeps out s⟩
  · exact ⟨_, exec_wcmdStart s, sendByte_keeps _ s⟩
  · exact ⟨_, exec_wcmdPoll s, sendByte_keeps _ s⟩
  · exact ⟨_, exec_wcmdPad s, sendByte_keeps _ s⟩
  · exact ⟨_, exec_txSeqRow k s, loadExchange_keeps _ s⟩

/-- Settles O31: those that send by `sendingRow_keeps`, those that receive by `storeReceived_eq`. -/
theorem frameOfTheWireRows : Obligations.FrameOfTheWireRows := by
  intro out v s t
  refine ⟨fun i hi h => ?_, fun i hi h => ?_⟩
  · obtain ⟨u, hexec, hkeeps⟩ := sendingRow_keeps hi s
    cases hexec.symm.trans h
    exact hkeeps
  · have hrow : i ∈ (List.finRange Config.frameLen).map (frameRow · v) := hi
    obtain ⟨k, -, rfl⟩ := List.mem_map.mp hrow
    cases (exec_frameRow k v s).symm.trans h
    obtain ⟨k', ph', hstore⟩ := storeReceived_eq k v s
    rw [hstore]
    exact ⟨rfl, rfl, rfl, rfl, rfl, rfl, rfl, rfl, rfl, ⟨rfl, rfl, rfl, rfl, rfl⟩, rfl⟩

end Sys2Proof.Machine
end

section
/-! PROOFS. The sequencer's steps through one byte exchange (42_frame_transaction R126, R129) against the exchange in whole
(41_byte_exchange R101): six steps for a bit cell, at most two for a sample of `ACK`. -/

namespace Sys2Proof.Machine

/-! ## The bit cells -/

/-- R102, R126: the six steps of bit cell `j`, then the next cell or, after bit 7, the acknowledgement wait. -/
theorem run_bitCell {s : State} (hs : s.script = []) (j : Fin 8) : run 6 { s with i := j, ph := .bPre } = .next
    (if h : j.val + 1 < 8 then { bitCell s j with i := ⟨j.val + 1, h⟩, ph := .bPre } else { bitCell s j with ph := .aPoll }) := by
  cases s
  cases hs
  by_cases hj : j.val + 1 < 8
  · rw [dif_pos hj]
    exact congrArg Host.Outcome.next (dif_pos hj)
  · rw [dif_neg hj]
    exact congrArg Host.Outcome.next (dif_neg hj)

theorem foldl_bitCell_script (js : List (Fin 8)) (s : State) : (js.foldl bitCell s).script = s.script := by
  induction js generalizing s with
  | nil => rfl
  | cons j js ih => exact ih (bitCell s j)

/-- R101: the cells of the first `j` bits. -/
theorem run_firstCells {s : State} (hs : s.script = []) (j : Nat) (hj : j < 8) : run (6 * j) { s with i := 0, ph := .bPre } =
    .next { ((List.finRange 8).take j).foldl bitCell s with i := ⟨j, hj⟩, ph := .bPre } := by
  induction j with
  | zero => rfl
  | succ j ih =>
    have htake : (List.finRange 8).take (j + 1) = (List.finRange 8).take j ++ [⟨j, by omega⟩] := by
      rw [List.take_succ_eq_append_getElem (by simp; omega), List.getElem_finRange]
      rfl
    rw [Nat.mul_succ, run_add (ih (by omega)), run_bitCell ((foldl_bitCell_script _ s).trans hs), dif_pos hj, htake, List.foldl_append]
    rfl

/-- R101: the eight cells, in 48 steps. -/
theorem run_byteCells {s : State} (hs : s.script = []) :
    run 48 { s with i := 0, ph := .bPre } = .next { byteCells s with ph := .aPoll } := by
  have hall : bitCell (((List.finRange 8).take 7).foldl bitCell s) 7 = byteCells s := rfl
  have hlast := run_bitCell ((foldl_bitCell_script ((List.finRange 8).take 7) s).trans hs) 7
  rw [dif_neg (by decide), hall] at hlast
  exact (run_add (run_firstCells hs 7 (by decide))).trans hlast

/-! ## The acknowledgement wait -/

/-- The control point of an acknowledgement wait with `polls` samples left and none inactive so far (R103, R126). -/
def waitPhase (polls : Nat) : Phase :=
  if polls = 0 then .xFail else .aPoll

theorem stepAPoll_of_inactive {s : State} (h : ackNow s = false) : stepAPoll s = { pollAck s with ph := .xOk } := by
  simp [stepAPoll, h]

theorem stepAPoll_of_active {s : State} (h : ackNow s = true) : stepAPoll s = { pollAck s with ph := .aWait } := by
  simp [stepAPoll, h]

theorem stepAWait_of_left {s : State} {polls : Nat} (hn : s.n + polls = Config.ackPollMax) :
    stepAWait s = { delay Config.tHalf s with ph := waitPhase polls } := by
  have hlast : s.n = Config.ackPollMax ↔ polls = 0 := by omega
  simp [stepAWait, waitPhase, hlast]

theorem run_aPoll {s : State} (hs : s.script = []) : run 1 { s with ph := .aPoll } = .next (stepAPoll s) :=
  run_seq (s := { s with ph := .aPoll }) 0 hs (by simp)

theorem run_aWait {s : State} (hs : s.script = []) : run 1 { s with ph := .aWait } = .next (stepAWait s) :=
  run_seq (s := { s with ph := .aWait }) 0 hs (by simp)

/-- R103, R126: an active sample and its delay are two steps; an inactive sample is one and the last. -/
theorem run_ackWait {s : State} (hs : s.script = []) (polls : Nat) (hn : s.n + polls = Config.ackPollMax) :
    ∃ m ≤ 2 * polls, run m { s with ph := waitPhase polls } = .next (settleExchange (ackWait polls s)) := by
  induction polls generalizing s with
  | zero => exact ⟨0, le_rfl, rfl⟩
  | succ polls ih =>
    have hph : waitPhase (polls + 1) = .aPoll := rfl
    have hpoll := run_aPoll hs
    rw [hph]
    cases hack : ackNow s with
    | false =>
      rw [stepAPoll_of_inactive hack] at hpoll
      rw [ackWait_of_inactive hack]
      exact ⟨1, by omega, hpoll⟩
    | true =>
      have hleft : (pollAck s).n + polls = Config.ackPollMax := (Nat.add_right_comm _ _ _).trans hn
      rw [stepAPoll_of_active hack] at hpoll
      have hwait : run 1 { pollAck s with ph := .aWait } = .next { delay Config.tHalf (pollAck s) with ph := waitPhase polls } :=
        stepAWait_of_left hleft ▸ run_aWait hs
      obtain ⟨m, hm, hrun⟩ := ih (s := delay Config.tHalf (pollAck s)) hs hleft
      refine ⟨1 + (1 + m), by omega, ?_⟩
      rw [run_add hpoll, run_add hwait, hrun, ackWait_of_active hack]

/-! ## The exchange -/

/-- The byte the exchange at X_LOAD sends (R126). -/
def byteToSend (s : State) : Byte :=
  if s.opRun = .txn then Config.txSeq s.k else s.txb

/-- R101, R126, R129: one step to load the byte, 48 for its cells, at most 100 for its acknowledgement wait. -/
theorem run_exchange {s : State} (hs : s.script = []) (hp : s.ph = .xLoad) :
    ∃ m ≤ 149, run m s = .next (exchangeByte (byteToSend s) s) := by
  have hload : run 1 s = .next (loadExchange (byteToSend s) s) := by
    rw [run_seq 0 hs (by simp [hp]), run_zero, seqNext, hp]
    rfl
  have hcells := run_byteCells (s := loadByte (byteToSend s) s) hs
  have hscript : (byteCells (loadByte (byteToSend s) s)).script = [] := (foldl_bitCell_script _ (loadByte (byteToSend s) s)).trans hs
  have hn : (byteCells (loadByte (byteToSend s) s)).n = 0 := (byteCells_samples _).n_eq
  obtain ⟨m, hm, hwait⟩ := run_ackWait hscript 50 (Nat.add_eq_right.mpr hn)
  refine ⟨1 + (48 + m), by omega, ?_⟩
  calc run (1 + (48 + m)) s = run (48 + m) (loadExchange (byteToSend s) s) := run_add hload
    _ = run m { byteCells (loadByte (byteToSend s) s) with ph := .aPoll } := run_add hcells
    _ = .next (exchangeByte (byteToSend s) s) := hwait

/-- Settles O35, by `run_exchange`. -/
theorem sequencerRunsTheByteExchange : Obligations.SequencerRunsTheByteExchange := by
  intro s hs hp _
  obtain ⟨m, hm, hrun⟩ := run_exchange hs hp
  exact ⟨m, _, hm, exec_wbyte _ s, hrun⟩

/-! ## EXCHANGE_BYTE -/

/-- R126: the step at X_OK of a stand-alone exchange. -/
theorem run_xOk_xchg {u : State} (hs : u.script = []) (hp : u.ph = .xOk) (hop : u.opRun = .xchg) : run 1 u = .next { u with
    result := u.rxb, resultKnown := true, busy := false, done := true, ph := .idle, opRun := .none } := by
  rw [run_seq 0 hs (by simp [hop]), run_zero, seqNext, hp]
  simp only [hop]
  rfl

/-- R165: the step at X_FAIL of a stand-alone exchange. -/
theorem run_xFail_xchg {u : State} (hs : u.script = []) (hp : u.ph = .xFail) (hop : u.opRun = .xchg) : run 1 u = .next { u with
    err := true, errIndex := 0#4, resultKnown := false, busy := false, done := true, ph := .idle, opRun := .none } := by
  rw [run_seq 0 hs (by simp [hp]), run_zero, seqNext, hp]
  simp only [raiseAckTimeout, hop]
  rfl

/-- Settles O36: `run_exchange` from the accepted state, then one step at the control point it ends at. -/
theorem exchangeByteRunsToItsEnd : Obligations.ExchangeByteRunsToItsEnd := by
  intro s hs hb
  obtain ⟨m, hm, hrun⟩ := run_exchange (s := startExchange s) hs rfl
  have hsend : byteToSend (startExchange s) = s.arg := rfl
  rw [hsend] at hrun
  obtain ⟨-, -, -, -, hop, -, -, hscript, -, -⟩ := exchangeByte_keeps s.arg (startExchange s)
  have hend := run_add (b := 1) hrun
  refine ⟨startExchange s, exchangeByte s.arg (startExchange s), m + 1, ?_, exec_wbyte _ _, by omega, ?_⟩
  · exact (exec_exchangeByte s).trans (hostCommand_idle hb _)
  · obtain hp | hp := exchangeByte_ph s.arg (startExchange s)
    · exact .inl ⟨hp, hend.trans (run_xOk_xchg (hscript.trans hs) hp hop)⟩
    · exact .inr ⟨hp, hend.trans (run_xFail_xchg (hscript.trans hs) hp hop)⟩

end Sys2Proof.Machine
end

section
/-! PROOFS. The trace of an acknowledgement wait (41_byte_exchange R101, R103): `PollsTraced` asks nothing outside the wait, and inside it the
sequencer adds one sample or its delay. -/

namespace Sys2Proof.Machine

/-- The control points `PollsTraced` speaks of: those of an acknowledgement wait that has had no inactive sample (R126). -/
def Phase.inAckWait : Phase → Bool
  | .aPoll | .aWait | .xFail => true
  | _ => false

theorem PollsTraced.of_not_inAckWait {t : State} (h : t.ph.inAckWait = false) : PollsTraced t := by
  constructor <;> intro hp <;> simp [hp, Phase.inAckWait] at h

theorem PollsTraced.outside {s : State} (h : PollsTraced s) (lines : List HostLine) (rd : Byte) (free : Nat) :
    PollsTraced { s with script := lines, rdData := rd, freeCtr := free } :=
  ⟨h.at_poll, h.at_wait, h.at_fail⟩

theorem pollsTraced_refuse {s : State} (h : PollsTraced s) : PollsTraced (refuse s) :=
  ⟨h.at_poll, h.at_wait, h.at_fail⟩

/-- A command word is refused, or accepted outside a wait (R61). -/
theorem pollsTraced_command {v : Byte} {s t : State} (hinv : Inv s) (h : PollsTraced s) (hexec : exec (decodeHcmd v) s = .next t) :
    PollsTraced t := by
  obtain rfl | ⟨hb, hacc⟩ := command_cases hexec
  · exact pollsTraced_refuse h
  have ⟨_, hidle⟩ := hinv.idle_of_not_busy hb
  apply PollsTraced.of_not_inAckWait
  cases hacc with
  | lineWritten | datSampled | ackSampled => simp [hidle, Phase.inAckWait]
  | exchangeStarted | transactionStarted => rfl
  | frameDecoded =>
    obtain ⟨lx, ly, rx, ry, free, hdecoded⟩ := decoded_eq s
    simp [hdecoded, hidle, Phase.inAckWait]

/-- The wait begins with no sample taken (R101). -/
theorem pollsTraced_stepBClkHi {s : State} (hn : s.n = 0) : PollsTraced (stepBClkHi s) := by
  unfold stepBClkHi
  split
  · exact .of_not_inAckWait rfl
  · exact ⟨fun _ => ⟨.write .clk true :: s.trace, by simp [hn]⟩, nofun, nofun⟩

/-- An active sample is the newest event at A_WAIT (R103). -/
theorem pollsTraced_stepAPoll {s : State} {older : List Event} (htrace : s.trace = (activePolls s.n).reverse ++ older) :
    PollsTraced (stepAPoll s) := by
  cases hack : ackNow s with
  | true =>
    rw [stepAPoll_of_active hack]
    exact ⟨nofun, fun _ => ⟨s.n, older, rfl, by simp [hack, htrace]⟩, nofun⟩
  | false =>
    rw [stepAPoll_of_inactive hack]
    exact .of_not_inAckWait rfl

/-- Its delay makes it one of the active polls, at the next sample as at the timeout (R103). -/
theorem pollsTraced_stepAWait {s : State} {m : Nat} {older : List Event} (hn : s.n = m + 1)
    (htrace : s.trace = .read .ack true :: (activePolls m).reverse ++ older) : PollsTraced (stepAWait s) := by
  have hpolls : ∃ older, (stepAWait s).trace = (activePolls (stepAWait s).n).reverse ++ older :=
    ⟨older, by simp [stepAWait, hn, htrace, activePolls_succ_reverse, Config.tHalf]⟩
  refine ⟨fun _ => hpolls, fun hp => ?_, fun _ => hpolls⟩
  unfold stepAWait at hp
  split at hp <;> cases hp

theorem pollsTraced_seqNext {s : State} (hinv : Inv s) (h : PollsTraced s) : PollsTraced (seqNext s) := by
  cases hp : s.ph <;> simp only [seqNext, hp]
  case idle => exact h
  case bClkHi => exact pollsTraced_stepBClkHi (hinv.polls_zero (by simp [hp, Phase.inCell]))
  case aPoll =>
    obtain ⟨older, htrace⟩ := h.at_poll hp
    exact pollsTraced_stepAPoll htrace
  case aWait =>
    obtain ⟨m, older, hn, htrace⟩ := h.at_wait hp
    exact pollsTraced_stepAWait hn htrace
  case xOk =>
    apply PollsTraced.of_not_inAckWait
    split
    · unfold storeReceived
      split <;> rfl
    · rfl
  all_goals exact .of_not_inAckWait rfl

/-- Settles O44, by the five shapes of a step. -/
theorem stepKeepsThePollTrace : Obligations.StepKeepsThePollTrace := by
  refine ⟨.of_not_inAckWait rfl, fun s t hinv h hstep => ?_⟩
  obtain ⟨script, rd, free, rfl | ⟨v, rfl⟩ | ⟨v, -, hexec⟩ | hseq | ⟨-, rfl⟩⟩ := step_cases hstep
  · exact h.outside script rd free
  · exact ⟨h.at_poll, h.at_wait, h.at_fail⟩
  · exact pollsTraced_command (hinv.outside script rd free) (h.outside script rd free) hexec
  · obtain ⟨rfl, -⟩ := seqStep_inv hseq
    exact pollsTraced_seqNext (hinv.outside script rd free) (h.outside script rd free)
  · exact .of_not_inAckWait rfl

end Sys2Proof.Machine
end

section
/-! PROOFS. The sequencer's step at each control point (42_frame_transaction R126), with the byte a sample of `DAT` leaves in `rxb` (R102). -/

namespace Sys2Proof.Machine

/-! ## The control points with a choice -/

/-- The step is that of the control point the state stands at. -/
theorem seqStep_at {s : State} {p : Phase} (hp : s.ph = p) : seqStep s = seqStep { s with ph := p } := by
  rw [← hp]

theorem seqStep_xLoad_xchg {s : State} (hp : s.ph = .xLoad) (hop : s.opRun = .xchg) : seqStep s = .next (loadExchange s.txb s) := by
  rw [seqStep, hp]
  simp only [stepXLoad, hop]

/-- R102: the sample of `DAT` goes to bit `i` of `rxb`, the other bits stay. -/
theorem sampleBit_getLsbD (s : State) (j : Fin 8) : (sampleBit s).rxb.getLsbD j = if j = s.i then datNow s else s.rxb.getLsbD j :=
  setBit_getLsbD s.rxb s.i j (datNow s)

theorem stepBClkHi_last {s : State} (hi : s.i = 7) : stepBClkHi s = { lineWrite .clk true s with ph := .aPoll } :=
  dif_neg (by simp [hi])

theorem stepBClkHi_more {s : State} (hi : s.i ≠ 7) : stepBClkHi s = { lineWrite .clk true s with i := s.i + 1, ph := .bPre } := by
  have hlt : s.i.val + 1 < 8 := by omega
  have hnext : s.i + 1 = ⟨s.i.val + 1, hlt⟩ := Fin.ext (Fin.val_add_one_of_lt' hlt)
  rw [hnext]
  exact dif_pos hlt

theorem pollAck_of_ackNow {s : State} {b : Bool} (h : ackNow s = b) :
    pollAck s = { s with n := s.n + 1, ackIn := s.ackIn.tail, trace := .read .ack b :: s.trace } := by
  rw [← h]
  rfl

theorem stepAPoll_inactive {s : State} (h : ackNow s = false) : stepAPoll s =
    { s with n := s.n + 1, ackIn := s.ackIn.tail, trace := .read .ack false :: s.trace, ph := .xOk } := by
  rw [stepAPoll_of_inactive h, pollAck_of_ackNow h]

theorem stepAPoll_active {s : State} (h : ackNow s = true) : stepAPoll s =
    { s with n := s.n + 1, ackIn := s.ackIn.tail, trace := .read .ack true :: s.trace, ph := .aWait } := by
  rw [stepAPoll_of_active h, pollAck_of_ackNow h]

theorem stepAWait_last {s : State} (hn : s.n = 50) : stepAWait s = { delay Config.tHalf s with ph := .xFail } := by
  simp [stepAWait, Config.ackPollMax, hn]

theorem stepAWait_more {s : State} (hn : s.n ≠ 50) : stepAWait s = { delay Config.tHalf s with ph := .aPoll } := by
  simp [stepAWait, Config.ackPollMax, hn]

theorem storeReceived_of_ne {k : Fin 9} (hk : k ≠ 8) (v : Byte) (s : State) :
    storeReceived k v s = { s with frame := s.frame.set k v, k := k + 1, ph := .xLoad } := by
  have hlt : k.val + 1 < 9 := by omega
  have hnext : k + 1 = ⟨k.val + 1, hlt⟩ := Fin.ext (Fin.val_add_one_of_lt' hlt)
  rw [hnext, storeReceived_of_lt hlt]

theorem storeReceived_of_eq {k : Fin 9} (hk : k = 8) (v : Byte) (s : State) :
    storeReceived k v s = { s with frame := s.frame.set 8 v, ph := .tCmdEnd } := by
  rw [hk, storeReceived_last]

theorem seqStep_xOk_xchg {s : State} (hp : s.ph = .xOk) (hop : s.opRun = .xchg) : seqStep s = .next (complete (setResult s.rxb s)) := by
  rw [seqStep, hp]
  simp only [stepXOk, hop]

theorem seqStep_xOk_storeReceived {s : State} (hp : s.ph = .xOk) (hop : s.opRun = .txn) :
    seqStep s = .next (storeReceived s.k s.rxb s) :=
  (seqStep_xOk_txn hop hp).trans (runCode_frame s.k s.rxb s)

/-! ## Every control point -/

/-- Settles O34: a control point without a choice takes the step its row of `seqStep` gives; the others by the lemmas above. -/
theorem eachControlPointTakesItsStep : Obligations.EachControlPointTakesItsStep := by
  intro s
  exact ⟨fun hp => by rw [seqStep, hp], fun hp => seqStep_at hp, fun hp => seqStep_at hp, fun hp => seqStep_at hp,
    fun hp => seqStep_at hp, fun hp hop => seqStep_xLoad_xchg hp hop,
    fun hp hop => (seqStep_xLoad_txn hop hp).trans (runCode_txSeq s.k s), fun hp => seqStep_at hp, fun hp => seqStep_at hp,
    fun hp => seqStep_at hp, fun hp => seqStep_at hp, fun hp => ⟨_, seqStep_at hp, rfl, sampleBit_getLsbD s⟩,
    fun hp hi => (seqStep_at hp).trans (congrArg _ (stepBClkHi_last hi)),
    fun hp hi => (seqStep_at hp).trans (congrArg _ (stepBClkHi_more hi)),
    fun hp hack => (seqStep_at hp).trans (congrArg _ (stepAPoll_inactive hack)),
    fun hp hack => (seqStep_at hp).trans (congrArg _ (stepAPoll_active hack)),
    fun hp hn => (seqStep_at hp).trans (congrArg _ (stepAWait_last hn)),
    fun hp hn => (seqStep_at hp).trans (congrArg _ (stepAWait_more hn)),
    fun hp hop => seqStep_xOk_xchg hp hop,
    fun hp hop hk => (seqStep_xOk_storeReceived hp hop).trans (congrArg _ (storeReceived_of_ne hk s.rxb s)),
    fun hp hop hk => (seqStep_xOk_storeReceived hp hop).trans (congrArg _ (storeReceived_of_eq hk s.rxb s)),
    fun hp => seqStep_at hp, fun hp => seqStep_at hp⟩

end Sys2Proof.Machine
end

section
/-! PROOFS. Every operation ends (42_frame_transaction R129; 60_exceptions R173): the sequencer's position goes with `BUSY` and `op_run` (R15),
which every step keeps, and each step of a running operation is one of those `stepsLeft` allows. -/

namespace Sys2Proof.Machine

/-- `ph`, `op_run` and `BUSY` agree (R15), and the samples of `ACK` leave room for those to come: what makes the sequencer reach IDLE. -/
structure Positioned (s : State) : Prop where
  none_iff : s.opRun = .none ↔ s.ph = .idle
  busy_iff : s.busy = true ↔ s.ph ≠ .idle
  polls : PollsFit s

theorem Inv.positioned {s : State} (h : Inv s) : Positioned s :=
  ⟨h.idle_iff, h.busy_iff, h.polls_zero, h.polls_left, fun _ => h.polls_bounded⟩

theorem positioned_startTransaction (s : State) : Positioned (startTransaction s) :=
  ⟨by simp [startTransaction], by simp [startTransaction], nofun, nofun, nofun⟩

theorem positioned_complete (s : State) : Positioned (complete s) :=
  ⟨by simp, by simp, nofun, nofun, nofun⟩

/-- A step inside an operation leaves `op_run` and `BUSY` as they are. -/
theorem Positioned.of_running {s t : State} (h : Positioned s) (hs : s.ph ≠ .idle) (ht : t.ph ≠ .idle) (hop : t.opRun = s.opRun)
    (hbusy : t.busy = s.busy) (hpolls : PollsFit t) : Positioned t :=
  ⟨by simp [hop, h.none_iff, hs, ht], by simp [hbusy, h.busy_iff, hs, ht], hpolls⟩

theorem storeReceived_ph_ne_idle (k : Fin Config.frameLen) (v : Byte) (s : State) : (storeReceived k v s).ph ≠ .idle := by
  unfold storeReceived
  split <;> exact nofun

theorem positioned_seqNext {s : State} (h : Positioned s) : Positioned (seqNext s) := by
  have hpolls := seqNext_pollsFit h.polls
  cases hgo : s.ph.goesOn with
  | true =>
    have hs : s.ph ≠ .idle := fun hp => by simp [hp, Phase.goesOn] at hgo
    obtain ⟨ht, hop, hstatus, -⟩ := seqNext_sameOperation hgo
    exact h.of_running hs ht hop (congrArg Prod.fst hstatus) hpolls
  | false =>
    cases hp : s.ph <;> simp only [seqNext, hp] at hpolls ⊢
    case idle => exact h
    case xOk =>
      split at hpolls
      case isTrue hop =>
        obtain ⟨k', ph', hstore⟩ := storeReceived_eq s.k s.rxb s
        rw [if_pos hop]
        exact h.of_running (by simp [hp]) (storeReceived_ph_ne_idle _ _ s) (by rw [hstore]) (by rw [hstore]) hpolls
      case isFalse hop =>
        rw [if_neg hop]
        exact positioned_complete _
    case xFail | tSelOff => exact positioned_complete _
    all_goals simp [hp, Phase.goesOn] at hgo

theorem seqNext_of_idle {s : State} (hp : s.ph = .idle) : seqNext s = s := by
  rw [seqNext, hp]

/-- At IDLE the sequencer waits (R172). -/
theorem run_of_idle {s : State} (hs : s.script = []) (hp : s.ph = .idle) (m : Nat) : run m s = .next s := by
  induction m with
  | zero => rfl
  | succ m ih =>
    rw [run_seq m hs (by simp [hp]), seqNext_of_idle hp, ih]

theorem run_script {s t : State} (hs : s.script = []) {m : Nat} (h : run m s = .next t) : t.script = [] := by
  induction m generalizing s with
  | zero =>
    injection h with h
    rw [← h, hs]
  | succ m ih =>
    rw [run_eq, step_of_no_line hs] at h
    cases hstep : seqStep s with
    | next u =>
      rw [hstep] at h
      obtain ⟨rfl, -⟩ := seqStep_inv hstep
      exact ih ((seqNext_script s).trans hs) h
    | fault r =>
      rw [hstep] at h
      cases h
    | refused r =>
      rw [hstep] at h
      cases h

/-- Two runs to IDLE end in one state, since there the sequencer waits. -/
theorem run_to_idle_unique {s t u : State} (hs : s.script = []) {a b : Nat} (ht : run a s = .next t) (hu : run b s = .next u)
    (htp : t.ph = .idle) (hup : u.ph = .idle) : t = u := by
  have hab := run_add (b := b) ht
  rw [Nat.add_comm, run_add hu, run_of_idle (run_script hs hu) hup, run_of_idle (run_script hs ht) htp] at hab
  injection hab with hab
  exact hab.symm

/-- R129: the sequencer, left alone, is idle after the steps left. -/
theorem Positioned.run_to_idle {s : State} (h : Positioned s) (hs : s.script = []) (bound : Nat) (hbound : stepsLeft s ≤ bound) :
    ∃ t, run bound s = .next t ∧ t.ph = .idle ∧ t.busy = false := by
  induction bound generalizing s with
  | zero =>
    have hp : s.ph = .idle := by
      by_contra hp
      have hlt := stepsLeft_seqNext_lt h.polls hp
      omega
    have hb : s.busy = false := by
      by_contra hb
      exact h.busy_iff.mp (by simpa using hb) hp
    exact ⟨s, rfl, hp, hb⟩
  | succ bound ih =>
    rw [run_seq bound hs fun hp hnone => by simp [h.none_iff.mp hnone] at hp]
    refine ih (positioned_seqNext h) ((seqNext_script s).trans hs) ?_
    by_cases hp : s.ph = .idle
    · simp [seqNext_of_idle hp, stepsLeft, hp]
    · have hlt := stepsLeft_seqNext_lt h.polls hp
      omega

/-- R129: no control point has more steps before it than the start of a transaction. -/
theorem stepsLeft_le (s : State) : stepsLeft s ≤ 1347 := by
  have hk := s.k.isLt
  cases hp : s.ph <;> simp only [stepsLeft, hp, stepsAfterExchange] <;> omega

/-- Settles O41: the invariants hold the sequencer's position to what `Positioned` asks. -/
theorem everyOperationEnds : Obligations.EveryOperationEnds := by
  intro s hinv hs
  obtain ⟨t, hrun, hp, hb⟩ := hinv.positioned.run_to_idle hs 1347 (stepsLeft_le s)
  exact ⟨1347, t, le_rfl, hrun, hp, hb⟩

end Sys2Proof.Machine
end

section
/-! PROOFS. The sequencer's steps through a transaction (42_frame_transaction R126, R129) against the transaction in whole (R120 to R124): the
prologue, the exchanges still to come, the epilogue or the error. The bound on the steps is that of every operation. -/

namespace Sys2Proof.Machine

/-! ## Before and after the exchanges -/

/-- The control point does not matter to the exchanges in whole. -/
theorem exchanges_entry (ks : List (Fin Config.frameLen)) (s : State) (p : Phase) : exchanges ks { s with ph := p } = exchanges ks s := by
  cases ks with
  | nil => rfl
  | cons k ks => simp only [exchanges, exchangeByte_entry]

/-- A transaction after its prologue (R121, R126): `k` is 0 and the first exchange is next. -/
def afterPrologue (s : State) : State :=
  { prologue s with ph := .xLoad }

theorem runTransaction_eq (s : State) : runTransaction s = exchanges (List.finRange Config.frameLen) (afterPrologue s) :=
  (exchanges_entry _ (prologue s) .xLoad).symm

/-- R121: four steps. -/
theorem run_prologue {s : State} (hs : s.script = []) (hp : s.ph = .tCmdIdle) : run 4 s = .next (afterPrologue s) := by
  cases s
  cases hs
  cases hp
  rfl

/-- R123: two steps. -/
theorem run_epilogue {s : State} (hs : s.script = []) (hp : s.ph = .tCmdEnd) : run 2 s = .next (epilogue s) := by
  cases s
  cases hs
  cases hp
  rfl

/-! ## The exchanges -/

/-- The sequencer stands before the exchanges `ks` of a transaction, after which comes the epilogue (R126). -/
def StandsBefore (ks : List (Fin Config.frameLen)) (s : State) : Prop :=
  s.opRun = .txn ∧ match ks with
    | [] => s.ph = .tCmdEnd
    | k :: _ => s.ph = .xLoad ∧ s.k = k

theorem standsBefore_afterPrologue {s : State} (hop : s.opRun = .txn) : StandsBefore (List.finRange Config.frameLen) (afterPrologue s) :=
  ⟨hop, rfl, rfl⟩

/-- The exchanges from `j` on are `j` and those after it. -/
theorem finRange_drop {n j : Nat} (hj : j < n) : (List.finRange n).drop j = ⟨j, hj⟩ :: (List.finRange n).drop (j + 1) := by
  rw [List.drop_eq_getElem_cons (by simpa using hj), List.getElem_finRange]
  rfl

theorem eq_drop_of_suffix_finRange {n : Nat} {k : Fin n} {ks : List (Fin n)} (h : k :: ks <:+ List.finRange n) :
    ks = (List.finRange n).drop (k.val + 1) := by
  have hdrop := List.suffix_iff_eq_drop.mp h
  have hlen := h.length_le
  simp only [List.length_cons, List.length_finRange] at hdrop hlen
  rw [finRange_drop (by omega), List.cons.injEq] at hdrop
  obtain ⟨rfl, hks⟩ := hdrop
  exact hks

/-- R126: a byte received in the first of the exchanges is stored, and the others are next. -/
theorem standsBefore_storeReceived {k : Fin Config.frameLen} {ks : List (Fin Config.frameLen)} (h : k :: ks <:+ List.finRange Config.frameLen)
    (v : Byte) {s : State} (hop : s.opRun = .txn) : StandsBefore ks (storeReceived k v s) := by
  rw [eq_drop_of_suffix_finRange h]
  by_cases hlt : k.val + 1 < Config.frameLen
  · rw [storeReceived_of_lt hlt, finRange_drop hlt]
    exact ⟨hop, rfl, rfl⟩
  · rw [List.drop_eq_nil_of_le (by simpa using hlt), storeReceived, dif_neg hlt]
    exact ⟨hop, rfl⟩

theorem exchanges_of_ok {k : Fin Config.frameLen} {s : State} (h : (exchangeByte (Config.txSeq k) s).ph = .xOk)
    (ks : List (Fin Config.frameLen)) : exchanges (k :: ks) s =
      exchanges ks (storeReceived k (exchangeByte (Config.txSeq k) s).rxb (exchangeByte (Config.txSeq k) s)) :=
  if_pos (by simp [exchangeOk, h])

theorem exchanges_of_fail {k : Fin Config.frameLen} {s : State} (h : (exchangeByte (Config.txSeq k) s).ph = .xFail)
    (ks : List (Fin Config.frameLen)) : exchanges (k :: ks) s = raiseAckTimeout (exchangeByte (Config.txSeq k) s) :=
  if_neg (by simp [exchangeOk, h])

/-- A transaction in whole ends as every operation does (R8), with its epilogue or with the error. -/
theorem exchanges_completes (ks : List (Fin Config.frameLen)) (s : State) : ∃ u, exchanges ks s = complete u := by
  induction ks generalizing s with
  | nil => exact ⟨_, rfl⟩
  | cons k ks ih =>
    obtain hok | hfail := exchangeByte_ph (Config.txSeq k) s
    · rw [exchanges_of_ok hok]
      exact ih _
    · rw [exchanges_of_fail hfail]
      exact ⟨_, rfl⟩

theorem storeReceived_script (k : Fin Config.frameLen) (v : Byte) (s : State) : (storeReceived k v s).script = s.script := by
  obtain ⟨k', ph', h⟩ := storeReceived_eq k v s
  rw [h]

/-- R122, R126: the steps from X_LOAD of the first of the exchanges `ks` on lead to what the exchanges in whole do. -/
theorem run_exchanges {ks : List (Fin Config.frameLen)} (h : ks <:+ List.finRange Config.frameLen) {s : State} (hs : s.script = [])
    (hbefore : StandsBefore ks s) : ∃ m, run m s = .next (exchanges ks s) := by
  induction ks generalizing s with
  | nil =>
    obtain ⟨-, hp⟩ := hbefore
    exact ⟨2, run_epilogue hs hp⟩
  | cons k ks ih =>
    obtain ⟨hop, hp, rfl⟩ := hbefore
    obtain ⟨m, -, hrun⟩ := run_exchange hs hp
    rw [byteToSend, if_pos hop] at hrun
    obtain ⟨-, -, -, -, hop', -, hk', hscript', -, -⟩ := exchangeByte_keeps (Config.txSeq s.k) s
    have hone := run_seq (s := exchangeByte (Config.txSeq s.k) s) 0 (hscript'.trans hs) (by simp [hop', hop])
    obtain hok | hfail := exchangeByte_ph (Config.txSeq s.k) s
    · have hstore : seqNext (exchangeByte (Config.txSeq s.k) s) =
          storeReceived s.k (exchangeByte (Config.txSeq s.k) s).rxb (exchangeByte (Config.txSeq s.k) s) := by
        rw [seqNext, hok]
        simp only [hop', hop, hk', if_true]
      obtain ⟨m', hrest⟩ := ih ((List.suffix_cons _ _).trans h) ((storeReceived_script _ _ _).trans (hscript'.trans hs))
        (standsBefore_storeReceived h _ (hop'.trans hop))
      refine ⟨m + (1 + m'), ?_⟩
      rw [run_add hrun, run_add hone, hstore, hrest, exchanges_of_ok hok]
    · have hraise : seqNext (exchangeByte (Config.txSeq s.k) s) = raiseAckTimeout (exchangeByte (Config.txSeq s.k) s) := by
        rw [seqNext, hfail]
      refine ⟨m + 1, ?_⟩
      rw [run_add hrun, hone, hraise, exchanges_of_fail hfail, run_zero]

/-! ## RUN_TRANSACTION -/

/-- R8, R120: the end of a transaction in whole. -/
theorem runTransaction_ends (s : State) :
    (runTransaction s).ph = .idle ∧ (runTransaction s).busy = false ∧ (runTransaction s).done = true := by
  obtain ⟨u, hu⟩ := exchanges_completes (List.finRange Config.frameLen) (prologue s)
  rw [runTransaction, hu]
  exact ⟨rfl, rfl, rfl⟩

/-- R120, R126, R129: the accepted RUN_TRANSACTION, left alone. Its steps lead to the end of the transaction in whole, and within the bound to
IDLE; the two are one state. -/
theorem run_startTransaction {s : State} (hs : s.script = []) :
    run 1347 (startTransaction s) = .next (runTransaction (startTransaction s)) := by
  have hscript : (startTransaction s).script = [] := hs
  obtain ⟨m, hm⟩ := run_exchanges List.suffix_rfl (s := afterPrologue (startTransaction s)) hs (standsBefore_afterPrologue rfl)
  have hwhole : run (4 + m) (startTransaction s) = .next (runTransaction (startTransaction s)) := by
    rw [run_add (run_prologue hscript rfl), hm, runTransaction_eq]
  obtain ⟨t, hrun, hp, -⟩ := (positioned_startTransaction s).run_to_idle hscript 1347 le_rfl
  obtain ⟨hidle, -⟩ := runTransaction_ends (startTransaction s)
  rw [hrun, run_to_idle_unique hscript hrun hwhole hp hidle]

/-- Settles O37, by `run_startTransaction` and `runTransaction_ends`. -/
theorem transactionRunsToItsEnd : Obligations.TransactionRunsToItsEnd := by
  intro s hs hb
  exact ⟨startTransaction s, 1347, (exec_runTransaction s).trans (hostCommand_idle hb _), le_rfl, run_startTransaction hs,
    runTransaction_ends (startTransaction s)⟩

end Sys2Proof.Machine
end

section
/-! PROOFS. A transaction with a device that lists its samples (42_frame_transaction R122 to R128): the exchanges that receive their bytes, one
after the other, then the epilogue or the exchange that times out. -/

namespace Sys2Proof.Machine

/-! ## One exchange -/

/-- R104: the exchange in whole that receives `v`. -/
theorem exchangeByte_of_device {s : State} (out : Byte) {v : Byte} {m : Nat} {ds as : List Bool} (hm : m < 50)
    (hds : s.datIn = wireBits v ++ ds) (has : s.ackIn = List.replicate m true ++ false :: as) : exchangeByte out s = { s with
      txb := out, rxb := v, i := 7, n := m + 1, ph := .xOk, clk := true, cmd := out.getLsbD 7
      datIn := ds, ackIn := as, trace := (successEvents out v m).reverse ++ s.trace } := by
  obtain ⟨h, -⟩ := exchangeReceivesTheDeviceByte s out v m ds as hm hds has
  injection h

/-- R103: the exchange in whole that times out. -/
theorem exchangeByte_of_timeout {s : State} (out : Byte) {v : Byte} {ds as : List Bool}
    (hds : s.datIn = wireBits v ++ ds) (has : s.ackIn = List.replicate 50 true ++ as) : exchangeByte out s = { s with
      txb := out, rxb := v, i := 7, n := 50, ph := .xFail, clk := true, cmd := out.getLsbD 7
      datIn := ds, ackIn := as, trace := (timeoutEvents out v).reverse ++ s.trace } := by
  obtain ⟨h, -⟩ := exchangeFailsAfterFiftyPolls s out v ds as hds has
  injection h

/-! ## The exchanges that succeed -/

/-- From `s` to `u` the exchanges `ks` of a transaction have received their bytes of `f`, that of exchange `k` after `p k` active samples of
`ACK`: what they leave (R127), the bytes stored (R122) and the time taken (R128). -/
structure Received (f : Vector Byte 9) (p : Fin 9 → Nat) (ks : List (Fin 9)) (s u : State) : Prop where
  pad : padOf u = padOf s
  operands : operandsOf u = operandsOf s
  status : statusOf u = statusOf s
  select : u.sel = s.sel
  no_frame : u.frameValid = s.frameValid
  clock : s.clk = true → u.clk = true
  stored : ∀ k, u.frame.get k = if k ∈ ks then f.get k else s.frame.get k
  time : elapsed u.trace = elapsed s.trace + (ks.map fun k => 160 + 5 * p k).sum

theorem Received.nil (f : Vector Byte 9) (p : Fin 9 → Nat) (s : State) : Received f p [] s s :=
  ⟨rfl, rfl, rfl, rfl, rfl, id, fun _ => rfl, rfl⟩

theorem frame_set_get (frame : Vector Byte 9) (k j : Fin 9) (v : Byte) :
    (frame.set k v).get j = if j = k then v else frame.get j := by
  simp [Vector.get_eq_getElem, Vector.getElem_set, Fin.ext_iff, eq_comm]

theorem elapsed_cons (e : Event) (es : List Event) : elapsed (e :: es) = elapsed es + elapsed [e] := by
  rw [show e :: es = [e] ++ es from rfl, elapsed_append, Nat.add_comm]

theorem elapsed_reverse (es : List Event) : elapsed es.reverse = elapsed es := by
  induction es with
  | nil => rfl
  | cons e es ih => rw [List.reverse_cons, elapsed_append, ih, elapsed_cons e es]

theorem Received.trans {f : Vector Byte 9} {p : Fin 9 → Nat} {ks ks' : List (Fin 9)} {s t u : State} (h : Received f p ks s t)
    (g : Received f p ks' t u) : Received f p (ks ++ ks') s u where
  pad := g.pad.trans h.pad
  operands := g.operands.trans h.operands
  status := g.status.trans h.status
  select := g.select.trans h.select
  no_frame := g.no_frame.trans h.no_frame
  clock := fun hclk => g.clock (h.clock hclk)
  stored := fun k => by
    rw [g.stored, h.stored]
    by_cases hks : k ∈ ks <;> simp [hks]
  time := by rw [g.time, h.time, List.map_append, List.sum_append, Nat.add_assoc]

/-- R122: storing the byte of an exchange that took the time of `p k` active samples. -/
theorem received_storeReceived {f : Vector Byte 9} {p : Fin 9 → Nat} {k : Fin 9} {s t : State} (hkeeps : ExchangeKeeps s t)
    (hclk : t.clk = true) (htime : elapsed t.trace = elapsed s.trace + (160 + 5 * p k)) :
    Received f p [k] s (storeReceived k (f.get k) t) := by
  obtain ⟨hpad, hoperands, hstatus, hsel, -, hframe, -⟩ := hkeeps
  simp only [frameOf, Prod.mk.injEq] at hframe
  obtain ⟨hframe, hvalid⟩ := hframe
  obtain ⟨k', ph', hstore⟩ := storeReceived_eq k (f.get k) t
  rw [hstore]
  refine ⟨hpad, hoperands, hstatus, hsel, hvalid, fun _ => hclk, fun j => ?_, by simpa using htime⟩
  simp only [frame_set_get, hframe, List.mem_singleton]
  split
  case isTrue hj => rw [hj]
  case isFalse => rfl

/-- R122, R128: one exchange with the device, and its byte stored. -/
theorem exchange_received {f : Vector Byte 9} {p : Fin 9 → Nat} {k : Fin 9} {s : State} {ds as : List Bool} (hp : p k < 50)
    (hds : s.datIn = wireBits (f.get k) ++ ds) (has : s.ackIn = List.replicate (p k) true ++ false :: as)
    (ks : List (Fin 9)) : ∃ t, exchanges (k :: ks) s = exchanges ks (storeReceived k (f.get k) t) ∧
      Received f p [k] s (storeReceived k (f.get k) t) ∧ t.opRun = s.opRun ∧ t.datIn = ds ∧ t.ackIn = as := by
  have hexchange := exchangeByte_of_device (Config.txSeq k) hp hds has
  have hkeeps := exchangeByte_keeps (Config.txSeq k) s
  obtain ⟨-, -, htime⟩ := exchangeReceivesTheDeviceByte s (Config.txSeq k) (f.get k) (p k) ds as hp hds has
  have hok : (exchangeByte (Config.txSeq k) s).ph = .xOk := by rw [hexchange]
  have hrxb : (exchangeByte (Config.txSeq k) s).rxb = f.get k := by rw [hexchange]
  refine ⟨exchangeByte (Config.txSeq k) s, ?_, received_storeReceived hkeeps (by rw [hexchange]) ?_, ?_, ?_, ?_⟩
  · rw [exchanges_of_ok hok, hrxb]
  · rw [hexchange]
    simp only [elapsed_append, elapsed_reverse, htime, Nat.add_comm]
  all_goals rw [hexchange]

theorem storeReceived_samples (k : Fin Config.frameLen) (v : Byte) (s : State) :
    (storeReceived k v s).datIn = s.datIn ∧ (storeReceived k v s).ackIn = s.ackIn := by
  obtain ⟨k', ph', h⟩ := storeReceived_eq k v s
  rw [h]
  exact ⟨rfl, rfl⟩

/-- R122: the device's bytes are received one after the other, and the rest of the transaction goes on from there. -/
theorem exchanges_received {f : Vector Byte 9} {p : Fin 9 → Nat} {ks rest : List (Fin 9)} (h : ks ++ rest <:+ List.finRange 9) {s : State}
    (hbefore : StandsBefore (ks ++ rest) s) {ds as : List Bool} (hp : ∀ k ∈ ks, p k < 50) (hds : s.datIn = frameSamples f ks ++ ds)
    (has : s.ackIn = pollSamples p ks ++ as) : ∃ u, exchanges (ks ++ rest) s = exchanges rest u ∧ Received f p ks s u ∧
      StandsBefore rest u ∧ u.datIn = ds ∧ u.ackIn = as := by
  induction ks generalizing s with
  | nil => exact ⟨s, rfl, .nil f p s, hbefore, hds, has⟩
  | cons k ks ih =>
    obtain ⟨hop, -, -⟩ := hbefore
    rw [frameSamples, List.flatMap_cons, List.append_assoc] at hds
    rw [pollSamples, List.flatMap_cons, List.append_assoc, List.append_assoc] at has
    obtain ⟨t, hfirst, hone, hop', hds', has'⟩ := exchange_received (hp k List.mem_cons_self) hds has (ks ++ rest)
    obtain ⟨hdat, hack⟩ := storeReceived_samples k (f.get k) t
    obtain ⟨u, hrest, hmore, hu⟩ := ih ((List.suffix_cons k _).trans h) (standsBefore_storeReceived h (f.get k) (hop'.trans hop))
      (fun j hj => hp j (List.mem_cons_of_mem k hj)) (hdat.trans hds') (hack.trans has')
    exact ⟨u, hfirst.trans hrest, hone.trans hmore, hu⟩

/-! ## The whole transaction -/

/-- R120, R121: where the exchanges begin, with the flags cleared, the lines set up and one clock-delay taken. -/
theorem afterPrologue_startTransaction (s : State) : StandsBefore (List.finRange 9) (afterPrologue (startTransaction s)) ∧
    statusOf (afterPrologue (startTransaction s)) = (true, false, false, false, 0#4) ∧
    (afterPrologue (startTransaction s)).clk = true ∧ (afterPrologue (startTransaction s)).sel = true ∧
    operandsOf (afterPrologue (startTransaction s)) = operandsOf s ∧ padOf (afterPrologue (startTransaction s)) = padOf s ∧
    (afterPrologue (startTransaction s)).frameValid = false ∧
    elapsed (afterPrologue (startTransaction s)).trace = 10 + elapsed s.trace :=
  ⟨standsBefore_afterPrologue rfl, rfl, rfl, rfl, rfl, rfl, rfl, rfl⟩

theorem epilogue_linesOf (u : State) : linesOf (epilogue u) = (u.clk, true, false) := rfl

/-- R123: the epilogue has no delay. -/
theorem epilogue_elapsed (u : State) : elapsed (epilogue u).trace = elapsed u.trace := rfl

/-- R165: in a transaction the error index is the exchange, and `RESULT` keeps its value. -/
theorem raiseAckTimeout_of_txn {s : State} (hop : s.opRun = .txn) :
    raiseAckTimeout s = complete { s with err := true, errIndex := BitVec.ofNat 4 s.k.val } := by
  simp [raiseAckTimeout, hop]

/-- Settles O38: all nine exchanges receive their bytes, then the epilogue (R123) validates the frame and idles the lines. -/
theorem transactionReceivesTheFrame : Obligations.TransactionReceivesTheFrame := by
  intro s f p ds as hs hb hp hds has
  obtain ⟨hbefore, hstatus, hclk, -, hoperands, hpad, -, htime⟩ := afterPrologue_startTransaction s
  rw [← List.append_nil (List.finRange 9)] at hbefore
  obtain ⟨u, hall, hrec, -, hdat, hack⟩ := exchanges_received (by simp) hbefore (fun k _ => hp k) hds has
  have hrun : run 1347 (startTransaction s) = .next (epilogue u) := by
    rw [run_startTransaction hs, runTransaction_eq, ← List.append_nil (List.finRange _), hall, exchanges]
  have hstatus := hrec.status.trans hstatus
  simp only [statusOf, Prod.mk.injEq] at hstatus
  obtain ⟨-, -, herr, -, hidx⟩ := hstatus
  have hframe : u.frame = f := by
    refine Vector.ext fun j hj => ?_
    exact (hrec.stored ⟨j, hj⟩).trans (if_pos (List.mem_finRange _))
  refine ⟨startTransaction s, epilogue u, 1347, (exec_runTransaction s).trans (hostCommand_idle hb _), le_rfl, hrun,
    hframe, rfl, rfl, rfl, herr, hidx, ?_, hrec.operands.trans hoperands, hrec.pad.trans hpad, hdat, hack, ?_⟩
  · rw [epilogue_linesOf, hrec.clock hclk]
  · rw [epilogue_elapsed, hrec.time, htime]
    omega

/-- The exchanges of a transaction before `e`, `e` itself, and those after it. -/
theorem finRange_split {n : Nat} (e : Fin n) :
    List.finRange n = (List.finRange n).take e.val ++ e :: (List.finRange n).drop (e.val + 1) := by
  rw [← finRange_drop e.isLt, List.take_append_drop]

theorem finRange_take_succ {n : Nat} (e : Fin n) :
    (List.finRange n).take (e.val + 1) = (List.finRange n).take e.val ++ [e] := by
  rw [List.take_succ_eq_append_getElem (by simp), List.getElem_finRange]
  rfl

theorem lt_of_mem_finRange_take {n j : Nat} {k : Fin n} (hk : k ∈ (List.finRange n).take j) : k.val < j := by
  obtain ⟨i, hi, rfl⟩ := List.mem_take_iff_getElem.mp hk
  simp only [List.getElem_finRange, Fin.val_cast]
  omega

/-- R124, R127: exchanges of which those before `e` receive their bytes and `e` times out end there with the error; `t` is the state the
exchange left, before the error. -/
theorem exchanges_failed {f : Vector Byte 9} {p : Fin 9 → Nat} {e : Fin 9} {s : State}
    (hbefore : StandsBefore (List.finRange 9) s) {ds as : List Bool} (hp : ∀ k < e, p k < 50)
    (hds : s.datIn = frameSamples f ((List.finRange 9).take (e.val + 1)) ++ ds)
    (has : s.ackIn = pollSamples p ((List.finRange 9).take e.val) ++ List.replicate 50 true ++ as) :
    ∃ t, exchanges (List.finRange 9) s = complete { t with err := true, errIndex := BitVec.ofNat 4 e.val } ∧
      linesOf t = (true, (Config.txSeq e).getLsbD 7, s.sel) ∧ operandsOf t = operandsOf s ∧ padOf t = padOf s ∧
      t.frameValid = s.frameValid ∧ t.datIn = ds ∧ t.ackIn = as := by
  have hbytes : s.datIn = frameSamples f ((List.finRange 9).take e.val) ++ (wireBits (f.get e) ++ ds) := by
    rw [hds, finRange_take_succ, frameSamples, List.flatMap_append, List.flatMap_singleton, List.append_assoc]
    rfl
  rw [List.append_assoc] at has
  rw [finRange_split e] at hbefore
  obtain ⟨u, hall, hrec, ⟨hop, -, hk⟩, hdat, hack⟩ := exchanges_received (by rw [← finRange_split]) hbefore
    (fun k hk => hp k (lt_of_mem_finRange_take hk)) hbytes has
  have hexchange := exchangeByte_of_timeout (Config.txSeq e) hdat hack
  obtain ⟨hpad, hoperands, -, hsel, hop', hframe, hk', -⟩ := exchangeByte_keeps (Config.txSeq e) u
  refine ⟨exchangeByte (Config.txSeq e) u, ?_, ?_, hoperands.trans hrec.operands, hpad.trans hrec.pad,
    (congrArg Prod.snd hframe).trans hrec.no_frame, ?_, ?_⟩
  · rw [finRange_split e, hall, exchanges_of_fail (by rw [hexchange]), raiseAckTimeout_of_txn (hop'.trans hop), hk', hk]
  · rw [linesOf, hsel, hrec.select, hexchange]
  all_goals rw [hexchange]

/-- Settles O39, by `exchanges_failed` from where the prologue leads to. -/
theorem transactionFailsAtItsExchange : Obligations.TransactionFailsAtItsExchange := by
  intro s f p e ds as hs hb hp hds has
  obtain ⟨hbefore, -, -, hsel, hoperands, hpad, hvalid, -⟩ := afterPrologue_startTransaction s
  obtain ⟨t, hall, hlines, hoperands', hpad', hvalid', hdat, hack⟩ := exchanges_failed hbefore hp hds has
  rw [hsel] at hlines
  have hrun := run_startTransaction hs
  rw [runTransaction_eq, hall] at hrun
  exact ⟨startTransaction s, _, 1347, (exec_runTransaction s).trans (hostCommand_idle hb _), le_rfl, hrun, rfl, rfl, rfl, rfl,
    hvalid'.trans hvalid, hlines, hoperands'.trans hoperands, hpad'.trans hpad, hdat, hack⟩

end Sys2Proof.Machine
end

section
/-! PROOFS. The State Decoder (43_state_decoder R140 to R148): the record bit by bit, the frame bytes it is read from, and DECODE against the
rows of the mode byte and the buttons. -/

namespace Sys2Proof.Machine

/-! ## What DECODE reads -/

/-- R146: the record is read from byte 1 and bytes 3 to 8. -/
theorem decodeFrame_congr {f g : Vector Byte Config.frameLen} (h : ∀ k, k ≠ 0 → k ≠ 2 → g.get k = f.get k) :
    decodeFrame g = decodeFrame f := by
  have hmode : frameAnalog g = frameAnalog f := by
    rw [frameAnalog, frameAnalog, h 1 (by decide) (by decide)]
  have haxes : frameAxes g = frameAxes f := by
    rw [frameAxes, frameAxes, h 5 (by decide) (by decide), h 6 (by decide) (by decide), h 7 (by decide) (by decide),
      h 8 (by decide) (by decide)]
  rw [decodeFrame, decodeFrame, hmode, haxes, h 3 (by decide) (by decide), h 4 (by decide) (by decide)]

/-- R146: with bytes 0 and 2 of the frame replaced, an accepted DECODE leaves the same state but for these two bytes. -/
theorem decoded_congr {s : State} {f : Vector Byte Config.frameLen} (h : ∀ k, k ≠ 0 → k ≠ 2 → f.get k = s.frame.get k) :
    decoded { s with frame := f } = { decoded s with frame := f } := by
  have hbuttons : writeButtons f (accept { s with frame := f }) = { writeButtons s.frame (accept s) with frame := f } := by
    rw [writeButtons, h 3 (by decide) (by decide), h 4 (by decide) (by decide)]
    rfl
  rw [decoded, decoded, decodeFrame_congr h, hbuttons]
  cases (decodeFrame s.frame).axes <;> rfl

/-- R146 for DECODE, refused or accepted: whether it is accepted is no matter of the frame's bytes. -/
theorem exec_decode_congr {s : State} {f : Vector Byte Config.frameLen} (h : ∀ k, k ≠ 0 → k ≠ 2 → f.get k = s.frame.get k) :
    ∃ t, exec .decode s = .next t ∧ exec .decode { s with frame := f } = .next { t with frame := f } := by
  refine ⟨_, exec_decode s, ?_⟩
  rw [exec_decode, decoded_congr h]
  cases s.busy || !s.frameValid <;> rfl

/-- Settles O17: the two runs end in one state but for the frame. -/
theorem decodeIgnoresBytesZeroAndTwo : Obligations.DecodeIgnoresBytesZeroAndTwo := by
  intro s b0 b2
  have hsame : ∀ k, k ≠ 0 → k ≠ 2 → ((s.frame.set 0 b0).set 2 b2).get k = s.frame.get k := by
    intro k h0 h2
    calc ((s.frame.set 0 b0).set 2 b2).get k = (s.frame.set 0 b0).get k := (frame_set_get _ 2 k b2).trans (if_neg h2)
      _ = s.frame.get k := (frame_set_get _ 0 k b0).trans (if_neg h0)
  obtain ⟨t, ht, hu⟩ := exec_decode_congr hsame
  exact ⟨t, _, ht, hu, rfl, rfl, rfl, rfl, rfl, fun _ => ⟨rfl, rfl, rfl, rfl⟩, decodeFrame_congr hsame⟩

/-! ## DECODE and the rows of its frame -/

theorem execAll_append {is : List Instr} (js : List Instr) {s t : State} (h : execAll is s = .next t) :
    execAll (is ++ js) s = execAll js t := by
  induction is generalizing s with
  | nil =>
    cases h
    rfl
  | cons i is ih =>
    rw [execAll] at h
    rw [List.cons_append, execAll]
    cases hi : exec i s with
    | next u => exact ih (by rwa [hi] at h)
    | fault r => simp [hi] at h
    | refused r => simp [hi] at h

/-- R73: a flag is its bit of the complemented byte. -/
theorem pressed_eq (v : Byte) (bit : Fin 8) : pressed v bit = (~~~v).getLsbD bit := by
  simp [pressed, bitOf]

/-- R148: eight rows that each write the flag of their bit of `v` into one register leave the complement of `v` there. -/
theorem execAll_flagRows {row : Fin 8 → Instr} {write : Byte → State} {v : Byte}
    (hrow : ∀ bit r, exec (row bit) (write r) = .next (write (setBit r bit (pressed v bit)))) (r : Byte) :
    execAll ((List.finRange 8).map row) (write r) = .next (write (~~~v)) := by
  have hbits (bits : List (Fin 8)) (r : Byte) : execAll (bits.map row) (write r) =
      .next (write (bits.foldl (fun r bit => setBit r bit ((~~~v).getLsbD bit)) r)) := by
    induction bits generalizing r with
    | nil => rfl
    | cons bit bits ih =>
      rw [List.map_cons, execAll, hrow, List.foldl_cons, ← pressed_eq]
      exact ih _
  rw [hbits, setBit_all]

section
variable {s : State} (hv : s.frameValid = true) (hb : s.busy = false)
include hv hb

/-- R142, for a frame that has values. -/
theorem writeFlagA_readable (bit : Fin 8) :
    writeFlagA bit s = { s with btnA := setBit s.btnA bit (pressed (s.frame.get 3) bit) } := by
  rw [writeFlagA_eq, frameView_readable hv hb, afterFrameView_freeCtr hv hb]

/-- R143, for a frame that has values. -/
theorem writeFlagB_readable (bit : Fin 8) :
    writeFlagB bit s = { s with btnB := setBit s.btnB bit (pressed (s.frame.get 4) bit) } := by
  rw [writeFlagB_eq, frameView_readable hv hb, afterFrameView_freeCtr hv hb]

/-- R142: the rows of byte 3. -/
theorem execAll_buttonARows : execAll ((List.finRange 8).map buttonARow) s = .next { s with btnA := ~~~(s.frame.get 3) } := by
  refine execAll_flagRows (write := fun r => { s with btnA := r }) (fun bit r => ?_) s.btnA
  rw [exec_buttonARow, writeFlagA_readable (s := { s with btnA := r }) hv hb]

/-- R143: the rows of byte 4. -/
theorem execAll_buttonBRows : execAll ((List.finRange 8).map buttonBRow) s = .next { s with btnB := ~~~(s.frame.get 4) } := by
  refine execAll_flagRows (write := fun r => { s with btnB := r }) (fun bit r => ?_) s.btnB
  rw [exec_buttonBRow, writeFlagB_readable (s := { s with btnB := r }) hv hb]

/-- R144, R145: the row of the mode byte writes the axes of the record. -/
theorem exec_modeRow {m : Instr} (hm : decode (.mode (s.frame.get 1)) = .ok m) :
    exec m s = .next (writeAxes (decodeFrame s.frame).axes s) := by
  by_cases hmode : s.frame.get 1 = Config.digitalModeSentinel
  · rw [hmode, decode_mode_sentinel] at hm
    cases hm
    rw [exec_modeDigital, decodeFrame_axes_digital hmode]
  · rw [decode_mode_of_ne hmode] at hm
    cases hm
    rw [exec_modeAnalog, frameView_readable hv hb, afterFrameView_readable hv hb, decodeFrame_axes_analog hmode]

/-- What the rows of the buttons and of the mode byte leave, one after the other. -/
theorem execAll_frameRows {m : Instr} (hm : decode (.mode (s.frame.get 1)) = .ok m) :
    execAll ((List.finRange 8).map buttonARow ++ ((List.finRange 8).map buttonBRow ++ [m])) s =
      .next (writeAxes (decodeFrame s.frame).axes (writeButtons s.frame s)) := by
  have hbuttons : execAll ((List.finRange 8).map buttonBRow) { s with btnA := ~~~(s.frame.get 3) } = .next (writeButtons s.frame s) :=
    execAll_buttonBRows hv hb
  have haxes : exec m (writeButtons s.frame s) = .next (writeAxes (decodeFrame s.frame).axes (writeButtons s.frame s)) :=
    exec_modeRow (s := writeButtons s.frame s) hv hb hm
  rw [execAll_append _ (execAll_buttonARows hv hb), execAll_append _ hbuttons, execAll, haxes]
  rfl

end

theorem writeAxes_accept (axes : Option Axes) (s : State) : writeAxes axes (accept s) = accept (writeAxes axes s) := by
  cases axes <;> rfl

/-- R140: DECODE is the work of its rows, with the flags of an accepted command and the frame consumed. -/
theorem decoded_eq_of_rows (s : State) :
    decoded s = finish (consumeFrame (accept (writeAxes (decodeFrame s.frame).axes (writeButtons s.frame s)))) := by
  rw [← writeAxes_accept]
  rfl

/-- Settles O27: beside the rows' work DECODE writes only flags and valid bits. -/
theorem decodeIsTheWorkOfItsRows : Obligations.DecodeIsTheWorkOfItsRows := by
  intro s m hb hv hm
  have hrows : [Instr.ctlSelect, .ctlLeftStick, .ctlRightStick, .ctlStart, .ctlUp, .ctlRight, .ctlDown, .ctlLeft, .ctlL2, .ctlR2, .ctlL1,
      .ctlR1, .ctlTriangle, .ctlCircle, .ctlCross, .ctlSquare, m] =
      (List.finRange 8).map buttonARow ++ ((List.finRange 8).map buttonBRow ++ [m]) := rfl
  rw [hrows]
  refine ⟨_, _, exec_decode_accepted hb hv, execAll_frameRows hv hb hm, ?_⟩
  rw [decoded_eq_of_rows]
  generalize writeAxes (decodeFrame s.frame).axes (writeButtons s.frame s) = u
  exact ⟨rfl, rfl, rfl, fun _ => ⟨rfl, rfl, rfl, rfl⟩⟩

/-! ## What DECODE leaves -/

/-- R140, R161: DECODE is refused, or accepted while `BUSY` = 0 and the frame is valid. -/
theorem exec_decode_inv {s t : State} (h : exec .decode s = .next t) :
    t = refuse s ∨ (s.busy = false ∧ s.frameValid = true ∧ t = decoded s) := by
  rw [exec_decode] at h
  cases hrefused : s.busy || !s.frameValid <;> rw [hrefused] at h <;> cases h
  · have ⟨hb, hv⟩ : s.busy = false ∧ s.frameValid = true := by simpa using hrefused
    exact .inr ⟨hb, hv, rfl⟩
  · exact .inl rfl

/-- Settles O30, by the refusal and the accepted state. -/
theorem frameOfDecode : Obligations.FrameOfDecode := by
  intro s t h
  obtain rfl | ⟨-, -, rfl⟩ := exec_decode_inv h
  · exact ⟨rfl, rfl, rfl, rfl, rfl, rfl, rfl, rfl, rfl, rfl, rfl⟩
  · obtain ⟨lx, ly, rx, ry, free, hdecoded⟩ := decoded_eq s
    rw [hdecoded]
    exact ⟨rfl, rfl, rfl, rfl, rfl, rfl, rfl, rfl, rfl, rfl, rfl⟩

/-! ## The record -/

/-- R145: the mode of the record. -/
theorem decodeFrame_analog_eq_false_iff (f : Vector Byte Config.frameLen) :
    (decodeFrame f).analog = false ↔ f.get 1 = Config.digitalModeSentinel :=
  bne_eq_false_iff_eq

/-- R148: the eight flags of a byte at their bits. -/
theorem byteOfBits_pressed (v : Byte) : byteOfBits (pressed v 0) (pressed v 1) (pressed v 2) (pressed v 3) (pressed v 4) (pressed v 5)
    (pressed v 6) (pressed v 7) = ~~~v := by
  simp only [pressed_eq]
  exact byteOfBits_getLsbD (~~~v)

/-- Settles O16: each flag is `pressed` of its bit, the mode decides the axes, and `byteOfBits_pressed` packs each byte. -/
theorem decodedRecordFollowsTheBitTable : Obligations.DecodedRecordFollowsTheBitTable := by
  intro f
  have hmode := decodeFrame_analog_eq_false_iff f
  refine ⟨rfl, rfl, rfl, rfl, rfl, rfl, rfl, rfl, rfl, rfl, rfl, rfl, rfl, rfl, rfl, rfl, hmode, fun ha => ?_,
    fun hd => decodeFrame_axes_digital (hmode.mp hd), byteOfBits_pressed (f.get 3), byteOfBits_pressed (f.get 4)⟩
  exact decodeFrame_axes_analog fun hsentinel => Bool.noConfusion (ha.symm.trans (hmode.mpr hsentinel))

end Sys2Proof.Machine
end

section
/-! PROOFS. The exceptions (60_exceptions): which command bytes are refused (R161) and what acceptance clears (R166), the error AckTimeout
(R160, R162, R165), and that no other path stops the machine (R170, R173). -/

namespace Sys2Proof.Machine

/-! ## Refusal and acceptance (R61, R161, R166) -/

/-- The three cases in which a command byte is refused (R161). -/
def Refuses (v : Byte) (s : State) : Prop :=
  s.busy = true ∨ 8 ≤ v.toNat ∨ (v = 0x07#8 ∧ s.frameValid = false)

/-- The status flags an accepted command byte leaves (R17, R62): `BUSY` for the two many-step operations, `DONE` for the others. -/
def acceptedStatus (v : Byte) : Bool × Bool × Bool × Bool × BitVec 4 :=
  if v = 0x05#8 ∨ v = 0x06#8 then (true, false, false, false, 0#4) else (false, true, false, false, 0#4)

theorem flags_of_acceptedStatus {v : Byte} {t : State} (h : statusOf t = acceptedStatus v) :
    t.refused = false ∧ t.err = false ∧ t.errIndex = 0#4 ∧
      ((v = 0x05#8 ∨ v = 0x06#8) → t.busy = true ∧ t.done = false) ∧
      (¬(v = 0x05#8 ∨ v = 0x06#8) → t.busy = false ∧ t.done = true) := by
  by_cases hmany : v = 0x05#8 ∨ v = 0x06#8 <;>
    simp only [statusOf, acceptedStatus, hmany, if_true, if_false, Prod.mk.injEq] at h <;>
    simp [h, hmany]

/-- What a command byte does: a refusal in the three cases of R161, and its acceptance in any other. -/
def RefusedOrAccepted (v : Byte) (s : State) : Prop :=
  (Refuses v s ∧ exec (decodeHcmd v) s = .next (refuse s)) ∨
  (¬Refuses v s ∧ ∃ t, exec (decodeHcmd v) s = .next t ∧ statusOf t = acceptedStatus v)

/-- The acceptance test of R61 is that of R161 for the commands that look at no frame. -/
theorem refusedOrAccepted_of_hostCommand {v : Byte} {s accepted : State} (hexec : exec (decodeHcmd v) s = hostCommand s accepted)
    (hword : v.toNat < 7) (hstatus : s.busy = false → statusOf accepted = acceptedStatus v) : RefusedOrAccepted v s := by
  cases hb : s.busy with
  | true => exact .inl ⟨.inl hb, by simp [hexec, hostCommand, hb]⟩
  | false =>
    refine .inr ⟨?_, accepted, hexec.trans (hostCommand_idle hb accepted), hstatus hb⟩
    rintro (hbusy | hreserved | ⟨rfl, -⟩)
    · simp [hb] at hbusy
    · omega
    · exact absurd hword (by decide)

theorem refusedOrAccepted_decode (s : State) : RefusedOrAccepted 0x07#8 s := by
  have hexec : exec (decodeHcmd 0x07#8) s = .next (if s.busy || !s.frameValid then refuse s else decoded s) := exec_decode s
  by_cases h : Refuses 0x07#8 s
  · have hcond : (s.busy || !s.frameValid) = true := by simpa [Refuses] using h
    exact .inl ⟨h, by rw [hexec, if_pos hcond]⟩
  · obtain ⟨hb, hf⟩ : s.busy = false ∧ s.frameValid = true := by simpa [Refuses] using h
    obtain ⟨lx, ly, rx, ry, free, hdecoded⟩ := decoded_eq s
    refine .inr ⟨h, decoded s, exec_decode_accepted hb hf, ?_⟩
    simp [hdecoded, statusOf, hb, acceptedStatus]

/-- R161, by the nine kinds of command word (R62, R74). -/
theorem refusedOrAccepted (v : Byte) (s : State) : RefusedOrAccepted v s := by
  have hline (l : OutLine) (hb : s.busy = false) :
      statusOf (finish (lineWrite l (argBit s) (accept s))) = (false, true, false, false, 0#4) := by simp [statusOf, hb]
  have hsample {t : State} (ht : statusOf t = (s.busy, true, false, false, 0#4)) (hb : s.busy = false) :
      statusOf t = (false, true, false, false, 0#4) := hb ▸ ht
  obtain ⟨hv, rsv, op, hd⟩ | ⟨rfl, -⟩ | ⟨rfl, -⟩ | ⟨rfl, -⟩ | ⟨rfl, -⟩ | ⟨rfl, -⟩ | ⟨rfl, -⟩ | ⟨rfl, -⟩ | ⟨rfl, -⟩ :=
    decodeHcmd_cases v
  · exact .inl ⟨.inr (.inl hv), by rw [hd]; rfl⟩
  · exact refusedOrAccepted_of_hostCommand rfl (by decide) (hline .clk)
  · exact refusedOrAccepted_of_hostCommand rfl (by decide) (hline .sel)
  · exact refusedOrAccepted_of_hostCommand rfl (by decide) (hline .cmd)
  · exact refusedOrAccepted_of_hostCommand rfl (by decide) (hsample rfl)
  · exact refusedOrAccepted_of_hostCommand rfl (by decide) (hsample rfl)
  · exact refusedOrAccepted_of_hostCommand (exec_exchangeByte s) (by decide) fun _ => rfl
  · exact refusedOrAccepted_of_hostCommand (exec_runTransaction s) (by decide) fun _ => rfl
  · exact refusedOrAccepted_decode s

/-- Settles O11: the two halves are those of `refusedOrAccepted`, each excluding the other. -/
theorem commandsAreAcceptedOrRefused : Obligations.CommandsAreAcceptedOrRefused := by
  intro s v
  change (Refuses v s → _) ∧ (¬Refuses v s → _)
  obtain ⟨hr, hexec⟩ | ⟨hr, t, hexec, hstatus⟩ := refusedOrAccepted v s
  · exact ⟨fun _ => hexec, fun hn => absurd hr hn⟩
  · exact ⟨fun h => absurd h hr, fun _ => ⟨t, hexec, flags_of_acceptedStatus hstatus⟩⟩

/-! ## The error (R160, R162, R165) -/

theorem raiseAckTimeout_of_xchg {s : State} (hop : s.opRun = .xchg) :
    raiseAckTimeout s = complete { s with err := true, errIndex := 0#4, resultKnown := false } := by
  simp [raiseAckTimeout, hop]

/-- Settles O42: the step at X_FAIL is `raiseAckTimeout`, by the operation that runs. -/
theorem ackTimeoutEntry : Obligations.AckTimeoutEntry := by
  intro s hp
  have hstep : seqStep s = .next (raiseAckTimeout s) := by rw [seqStep, hp]
  exact ⟨fun hop => hstep.trans (congrArg _ (raiseAckTimeout_of_txn hop)), fun hop => hstep.trans (congrArg _ (raiseAckTimeout_of_xchg hop))⟩

/-- Only X_FAIL sets `ERR` (R126, R160): the steps inside an operation keep all flags, and its two other ends keep `ERR`. -/
theorem seqNext_err {s : State} (hp : s.ph ≠ .xFail) : (seqNext s).err = s.err := by
  cases hgo : s.ph.goesOn with
  | true =>
    obtain ⟨-, -, hstatus, -⟩ := seqNext_sameOperation hgo
    simp only [statusOf, Prod.mk.injEq] at hstatus
    obtain ⟨-, -, herr, -, -⟩ := hstatus
    exact herr
  | false =>
    cases hph : s.ph <;> simp only [seqNext, hph]
    case xOk =>
      obtain ⟨k', ph', hstore⟩ := storeReceived_eq s.k s.rxb s
      split
      · rw [hstore]
      · rfl
    case xFail => exact absurd hph hp
    case tSelOff => simp
    all_goals simp [hph, Phase.goesOn] at hgo

/-- A command byte never sets `ERR`: a refusal keeps it and acceptance clears it (R161, R166). -/
theorem err_of_command {v : Byte} {s t : State} (hexec : exec (decodeHcmd v) s = .next t) (herr : t.err = true) : s.err = true := by
  obtain ⟨-, hrefused⟩ | ⟨-, u, haccepted, hstatus⟩ := refusedOrAccepted v s
  · injection hexec.symm.trans hrefused with ht
    rwa [ht] at herr
  · injection hexec.symm.trans haccepted with ht
    obtain ⟨-, hclear, -⟩ := flags_of_acceptedStatus hstatus
    rw [ht, hclear] at herr
    cases herr

/-- A step from any other control point finds `ERR` = 1 where it leaves it so, by the five shapes of a step. -/
theorem err_of_step {s t : State} (hstep : step s = .next t) (hp : s.ph ≠ .xFail) (ht : t.err = true) : s.err = true := by
  obtain ⟨script, rd, free, rfl | ⟨v, rfl⟩ | ⟨v, -, hexec⟩ | hseq | ⟨-, rfl⟩⟩ := step_cases hstep
  · exact ht
  · exact ht
  · have herr := err_of_command hexec ht
    exact herr
  · obtain ⟨rfl, -⟩ := seqStep_inv hseq
    have hkeep := seqNext_err (s := { s with script := script, rdData := rd, freeCtr := free }) hp
    exact hkeep.symm.trans ht
  · cases ht

/-- Settles O43: at X_FAIL the invariants give the 50 samples and `BUSY`, and `PollsTraced` their events. -/
theorem onlyFiftyActivePollsRaiseTheError : Obligations.OnlyFiftyActivePollsRaiseTheError := by
  intro s t hinv hpolls hstep hs ht
  have hp : s.ph = .xFail := by
    by_contra hp
    simp [err_of_step hstep hp ht] at hs
  have hn : s.n = 50 := hinv.polls_spent hp
  obtain ⟨older, htrace⟩ := hpolls.at_fail hp
  exact ⟨hp, hn, hinv.busy_iff.mpr (by simp [hp]), older, hn ▸ htrace⟩

/-! ## No fatal path (R170, R173) -/

/-- R15: the invariants leave no position without a step of the sequencer. -/
theorem Inv.seqStep_next {s : State} (h : Inv s) : seqStep s = .next (seqNext s) :=
  Machine.seqStep_next fun hp hnone => by simp [h.idle_iff.mp hnone] at hp

theorem command_next (v : Byte) (s : State) : ∃ t, exec (decodeHcmd v) s = .next t := by
  obtain ⟨-, hexec⟩ | ⟨-, t, hexec, -⟩ := refusedOrAccepted v s
  · exact ⟨_, hexec⟩
  · exact ⟨t, hexec⟩

/-- A one-byte write has a meaning whatever the register and the value (R41, R61). -/
theorem hostWrite_next (a : RegNo) (v : Byte) (s : State) : ∃ t, hostWrite a v s = .next t := by
  unfold hostWrite
  split
  · exact command_next v s
  · exact ⟨_, rfl⟩

theorem writeIfOk_next (a : RegNo) (v : Byte) (s : State) : ∃ t, writeIfOk a v s = .next t := by
  unfold writeIfOk
  split
  · exact ⟨_, rfl⟩
  · exact hostWrite_next a v _

/-- Every line of the host but a wide access goes on (R41, R77, R78). -/
theorem runLine_next {s : State} (h : Inv s) {l : HostLine} (hl : ∀ a n, l ≠ .wide a n) (rest : List HostLine) :
    ∃ t, runLine l rest s = .next t := by
  cases l with
  | wr a v => exact hostWrite_next a v _
  | rd | poll | reset => exact ⟨_, rfl⟩
  | wait =>
    cases hb : s.busy with
    | true => exact ⟨_, (waitLine_busy hb rest).trans (h.outside s.script _ s.freeCtr).seqStep_next⟩
    | false => exact ⟨_, waitLine_idle hb rest⟩
  | wrIfOk a v => exact writeIfOk_next a v _
  | tick => exact ⟨_, (h.outside rest s.rdData s.freeCtr).seqStep_next⟩
  | wide a n => exact absurd rfl (hl a n)

/-- Settles O45: without a line the sequencer takes its step, and with one the line is run. -/
theorem noFatalPath : Obligations.NoFatalPath := by
  intro s hinv hwide
  cases hs : s.script with
  | nil => exact ⟨_, (step_of_no_line hs).trans hinv.seqStep_next⟩
  | cons l rest =>
    obtain ⟨t, ht⟩ := runLine_next hinv (l := l) (fun a n hl => hwide a n rest (hl ▸ hs)) rest
    exact ⟨t, (step_of_line hs).trans ht⟩

end Sys2Proof.Machine
end

section
/-! PROOFS. The reset input (70_reset_and_hazards R180, R181): what it gives the SSPC, and what it leaves to the outside. -/

namespace Sys2Proof.Machine

/-- R180: all SSPC state takes its value of R31, whatever it was. -/
theorem applyReset_sameSspc (s : State) : SameSspc State.reset (applyReset s) :=
  ⟨rfl, rfl, rfl, rfl, rfl, rfl, rfl⟩

/-- Log entry 16: the outside goes on; in particular reset is no event of the trace (R8). -/
theorem applyReset_sameOutside (s : State) : SameOutside s (applyReset s) :=
  ⟨rfl, rfl, rfl, rfl, rfl⟩

/-- Settles O58: the line runs `applyReset` without a test of the state, so it acts at any time (R181). -/
theorem resetInputFromAnyState : Obligations.ResetInputFromAnyState := by
  intro s rest hs
  have hstep : step s = .next (applyReset { s with script := rest }) := step_of_line hs
  exact ⟨_, hstep, applyReset_sameSspc _, applyReset_sameOutside _⟩

end Sys2Proof.Machine
end
